-- ==== Sys2Proof/Word.lean ====
section
/-! DEFINITION. The word formats of the block (`30_encoding.md` section 1, `10_state.md` R26 to R28). -/

namespace Sys2Proof

/-- A sequencer word `seq = {phase[2:0], dstate[3:0]}` (R26, R95). -/
abbrev SeqWord := BitVec 7

/-- An event word `ev = {evt_src[1:0], evt_edge}` (R99). -/
abbrev EvWord := BitVec 3

/-- One sensor answer, five bytes, first slot in bit 39 (R90). -/
abbrev Frame := BitVec 40

/-- One byte of a frame (R64). -/
abbrev Byte := BitVec 8

/-- The step of the control loop's iteration (R27). All eight codes are used. -/
abbrev Phase := BitVec 3

/-- The step of the decoder's algorithm (R28). Codes 10 to 15 are reserved. -/
abbrev DState := BitVec 4

/-! The codes of R27. -/

/-- Test of the poll timer, call of the decoder. -/
abbrev PH_POLL : Phase := 0b000#3
/-- Inside the decoder; return and use of its result. -/
abbrev PH_DECODE : Phase := 0b001#3
/-- Drain of transitIn. -/
abbrev PH_DRAIN_IN : Phase := 0b010#3
/-- Drain of transitOut. -/
abbrev PH_DRAIN_OUT : Phase := 0b011#3
/-- Drain of motion. -/
abbrev PH_DRAIN_MOTION : Phase := 0b100#3
/-- Cooldown check. -/
abbrev PH_COOLDOWN : Phase := 0b101#3
/-- Button sampling. -/
abbrev PH_BUTTONS : Phase := 0b110#3
/-- The closing delay. -/
abbrev PH_IDLE : Phase := 0b111#3

/-! The codes of R28. -/

/-- Not in a read. -/
abbrev D_IDLE : DState := 0b0000#4
/-- Driving the line low for `T_REQ`. -/
abbrev D_REQ : DState := 0b0001#4
/-- Line released; the first sample after `T_TURN`. -/
abbrev D_TURN : DState := 0b0010#4
/-- In the acknowledgement's low pulse, waiting for high. -/
abbrev D_ACKL : DState := 0b0011#4
/-- In the acknowledgement's high pulse, waiting for low. -/
abbrev D_ACKH : DState := 0b0100#4
/-- Waiting for the line to go high. -/
abbrev D_BITH : DState := 0b0101#4
/-- The sampling delay, then the sample. -/
abbrev D_BITD : DState := 0b0110#4
/-- Waiting for the line to return low. -/
abbrev D_BITL : DState := 0b0111#4
/-- Checksum validation. -/
abbrev D_CHK : DState := 0b1000#4
/-- Result ready for the control loop. -/
abbrev D_DONE : DState := 0b1001#4

end Sys2Proof
end

