-- ==== Sys2Proof/Syntax.lean ====
section
/-! DEFINITION. The operations of the block, one constructor per row of the operation map, and the script
notation of R105: the steps ENV feeds to the block. -/

namespace Sys2Proof

/-- The operations: the 24 rows of `opcode_table.json`. No operation takes an operand in its encoding; the
operands are the step's inputs (R105). The table gives EVT.IGN one row for each of its five event words, so it
has five constructors. -/
inductive Instr where
  /-- LOOP.POLL (R184). -/
  | loopPoll
  /-- DEC.REQ (R121). -/
  | decReq
  /-- DEC.TURN (R122). -/
  | decTurn
  /-- DEC.ACKL (R123). -/
  | decAckl
  /-- DEC.ACKH (R124). -/
  | decAckh
  /-- DEC.BITH (R125). -/
  | decBith
  /-- DEC.BITD (R126). -/
  | decBitd
  /-- DEC.BITL (R127). -/
  | decBitl
  /-- DEC.CHK (R128). -/
  | decChk
  /-- LOOP.RET (R186). -/
  | loopRet
  /-- LOOP.DRIN (R188). -/
  | loopDrin
  /-- LOOP.DROUT (R190). -/
  | loopDrout
  /-- LOOP.DRMOT (R192). -/
  | loopDrmot
  /-- LOOP.COOL (R194). -/
  | loopCool
  /-- LOOP.BTN (R196). -/
  | loopBtn
  /-- LOOP.IDLE (R198). -/
  | loopIdle
  /-- EVT.IN (R161). -/
  | evtIn
  /-- EVT.IGN on `00 1`: transit-in, rising (R164). -/
  | evtIgnInRise
  /-- EVT.OUT (R162). -/
  | evtOut
  /-- EVT.IGN on `01 1`: transit-out, rising (R164). -/
  | evtIgnOutRise
  /-- EVT.IGN on `10 0`: motion, falling (R164). -/
  | evtIgnMotFall
  /-- EVT.MOT (R163). -/
  | evtMot
  /-- EVT.IGN on `11 0`: another source, falling (R164). -/
  | evtIgnOtherFall
  /-- EVT.IGN on `11 1`: another source, rising (R164). -/
  | evtIgnOtherRise
deriving DecidableEq, Repr

/-- The two execution contexts (R9, R260). -/
inductive Agent where
  /-- The control loop and the decoder it calls. -/
  | main
  /-- The interrupt context. -/
  | capture
deriving DecidableEq, Repr

/-- The context that executes an operation (column `agent` of the operation map; R96, R100). -/
def Instr.agent : Instr → Agent
  | .loopPoll | .decReq | .decTurn | .decAckl | .decAckh | .decBith | .decBitd | .decBitl | .decChk
  | .loopRet | .loopDrin | .loopDrout | .loopDrmot | .loopCool | .loopBtn | .loopIdle => .main
  | .evtIn | .evtIgnInRise | .evtOut | .evtIgnOutRise | .evtIgnMotFall | .evtMot | .evtIgnOtherFall
  | .evtIgnOtherRise => .capture

/-- The four values of `evt_src` (R99). -/
inductive EvtSrc where
  /-- The transit-in line. -/
  | transitIn
  /-- The transit-out line. -/
  | transitOut
  /-- The motion line. -/
  | motion
  /-- Any other source. -/
  | other
deriving DecidableEq, Repr, Inhabited

/-- The two values of `evt_edge` (R99). -/
inductive EvtEdge where
  /-- Falling, 0. -/
  | falling
  /-- Rising, 1. -/
  | rising
deriving DecidableEq, Repr, Inhabited

/-- One thing ENV does to the block: one line of a script (R10, R105), or the release of the reset input
(R20, R280; entry 10). -/
inductive EnvStep where
  /-- A MAIN step with its inputs (R20). -/
  | main (now : Nat) (sdaIn btnStart btnStop : Bool)
  /-- A CAPTURE step with its event (R21). -/
  | capture (src : EvtSrc) (edge : EvtEdge)
  /-- `rst` is asserted and released at clock value `now0` (R280). -/
  | reset (now0 : Nat)
deriving DecidableEq, Repr, Inhabited

/-- The clock value an item carries, where it carries one (R10: a CAPTURE step carries no time). -/
def EnvStep.time? : EnvStep → Option Nat
  | .main now _ _ _ => some now
  | .capture _ _ => none
  | .reset now0 => some now0

end Sys2Proof
end

