-- ==== Sys2Proof/Config.lean ====
section
/-! DEFINITION. The parameters of an instance (`00_scope.md` R7, R8) and the one free value, ENV's choices. -/

namespace Sys2Proof

/-- The parameters of R7 and R8, times in microseconds. They are constants of an instance (R44). -/
structure Config where
  /-- Length of the request pulse. -/
  tReq : Nat
  /-- Delay from the detected rise of a slot to the sample. -/
  tSample : Nat
  /-- Bit slots per frame. -/
  nSlots : Nat
  /-- Bytes per frame. -/
  nBytes : Nat
  /-- Least time between the end of one poll and the start of the next. -/
  tPoll : Nat
  /-- Indicator cooldown. -/
  tCool : Nat
  /-- The delay that closes each iteration. -/
  tIdle : Nat
  /-- Motor 1 humidity threshold, strict. -/
  humThresh : Nat
  /-- Motor 1 temperature threshold, strict. -/
  tempThresh : Nat
  /-- Motor 1 full duty, percent. -/
  dutyFull : Nat
  /-- Motor 2 duty in state On, percent. -/
  dutyM2On : Nat
  /-- Nominal width of the acknowledgement's low pulse; compared by no rule. -/
  tAckLow : Nat
  /-- Nominal width of the acknowledgement's high pulse; compared by no rule. -/
  tAckHigh : Nat
  /-- Bound of every wait for a transition (OPEN, D8). -/
  tWait : Nat
  /-- Delay from releasing the line to the first sample (D9). -/
  tTurn : Nat
  /-- Width in bits of `now` and of every stamp (D2). -/
  tw : Nat
  /-- Width in bits of the inventory count (D14). -/
  cw : Nat
deriving DecidableEq, Repr

/-- The values R7 prints and R8 recommends (entry 4). -/
def Config.nominal : Config where
  tReq := 18000
  tSample := 28
  nSlots := 40
  nBytes := 5
  tPoll := 1000000
  tCool := 5000000
  tIdle := 10000
  humThresh := 60
  tempThresh := 30
  dutyFull := 100
  dutyM2On := 7
  tAckLow := 80
  tAckHigh := 80
  tWait := 1000
  tTurn := 0
  tw := 64
  cw := 32

/-- FREE VALUE (entry 2): what ENV does when the script has run out. Nothing is known of it, so a statement
about a run holds for every spacing, interleaving and level (93 U5, U6, U7). The clock value in it is read
as an advance, which keeps `now` non-decreasing (R10). -/
opaque Config.freeEnv : Nat → EnvStep

end Sys2Proof
end

