-- ==== Sys2Proof/WellFormed.lean ====
section
/-! DEFINITION. What the spec requires of the two inputs of the model that can be ill-formed: the parameters
of an instance (R7, R8) and a script (R10, R105). An operation has no operand (R105), so no operation is. -/

namespace Sys2Proof

/-- R8: `TW ≥ 33` and `CW ≥ 1`. -/
def Config.widthsOk (c : Config) : Bool := decide (33 ≤ c.tw) && decide (1 ≤ c.cw)

/-- R8: `T_WAIT ≥ 1` (`T_TURN ≥ 0` always holds). -/
def Config.waitOk (c : Config) : Bool := decide (1 ≤ c.tWait)

/-- R90: the frame has 40 slots and five bytes. -/
def Config.frameOk (c : Config) : Bool := decide (c.nSlots = 40) && decide (c.nBytes = 5)

/-- R42, R232: duties are percent, 0 to 100, and full is not off. -/
def Config.dutyOk (c : Config) : Bool :=
  decide (1 ≤ c.dutyFull) && decide (c.dutyFull ≤ 100) && decide (c.dutyM2On ≤ 100)

/-- An instance the spec admits. -/
def Config.wf (c : Config) : Bool := c.widthsOk && c.waitOk && c.frameOk && c.dutyOk

/-- R10, R24: the clock values of a script never decrease, counted from `last`. -/
def scriptOk (last : Nat) : List EnvStep → Bool
  | [] => true
  | e :: rest =>
    match e.time? with
    | none => scriptOk last rest
    | some t => decide (last ≤ t) && scriptOk t rest

end Sys2Proof
end

