-- ==== Sys2Proof/Decode.lean ====
section
/-! DEFINITION. The two dispatchers as decoders (`30_encoding.md` R96, R100), the encoder, and the assembly of
a frame's fields (R91). -/

namespace Sys2Proof

/-- A word of one of the two operation formats: SEQ selects a MAIN operation, EV a CAPTURE operation. -/
inductive OpWord where
  /-- A sequencer word. -/
  | seq (w : SeqWord)
  /-- An event word. -/
  | ev (w : EvWord)
deriving DecidableEq, Repr

/-- Why a word has no operation. -/
inductive DecodeError where
  /-- One of the 112 reserved sequencer words (R98). -/
  | reservedSeq (w : SeqWord)
deriving DecidableEq, Repr

/-- MAIN's dispatcher, the table of R96. -/
def decodeSeq (w : SeqWord) : Except DecodeError Instr :=
  match w with
  | 0b0000000#7 => .ok .loopPoll
  | 0b0010001#7 => .ok .decReq
  | 0b0010010#7 => .ok .decTurn
  | 0b0010011#7 => .ok .decAckl
  | 0b0010100#7 => .ok .decAckh
  | 0b0010101#7 => .ok .decBith
  | 0b0010110#7 => .ok .decBitd
  | 0b0010111#7 => .ok .decBitl
  | 0b0011000#7 => .ok .decChk
  | 0b0011001#7 => .ok .loopRet
  | 0b0100000#7 => .ok .loopDrin
  | 0b0110000#7 => .ok .loopDrout
  | 0b1000000#7 => .ok .loopDrmot
  | 0b1010000#7 => .ok .loopCool
  | 0b1100000#7 => .ok .loopBtn
  | 0b1110000#7 => .ok .loopIdle
  | _ => .error (.reservedSeq w)

/-- CAPTURE's dispatcher, the table of R100. No event word is reserved (R101). -/
def decodeEv (w : EvWord) : Instr :=
  match w with
  | 0b000#3 => .evtIn
  | 0b001#3 => .evtIgnInRise
  | 0b010#3 => .evtOut
  | 0b011#3 => .evtIgnOutRise
  | 0b100#3 => .evtIgnMotFall
  | 0b101#3 => .evtMot
  | 0b110#3 => .evtIgnOtherFall
  | _ => .evtIgnOtherRise

/-- The operation a word selects. -/
def decode : OpWord → Except DecodeError Instr
  | .seq w => decodeSeq w
  | .ev w => .ok (decodeEv w)

/-- The word of an operation, from the same tables (R96, R100). -/
def encode : Instr → OpWord
  | .loopPoll => .seq (PH_POLL ++ D_IDLE)
  | .decReq => .seq (PH_DECODE ++ D_REQ)
  | .decTurn => .seq (PH_DECODE ++ D_TURN)
  | .decAckl => .seq (PH_DECODE ++ D_ACKL)
  | .decAckh => .seq (PH_DECODE ++ D_ACKH)
  | .decBith => .seq (PH_DECODE ++ D_BITH)
  | .decBitd => .seq (PH_DECODE ++ D_BITD)
  | .decBitl => .seq (PH_DECODE ++ D_BITL)
  | .decChk => .seq (PH_DECODE ++ D_CHK)
  | .loopRet => .seq (PH_DECODE ++ D_DONE)
  | .loopDrin => .seq (PH_DRAIN_IN ++ D_IDLE)
  | .loopDrout => .seq (PH_DRAIN_OUT ++ D_IDLE)
  | .loopDrmot => .seq (PH_DRAIN_MOTION ++ D_IDLE)
  | .loopCool => .seq (PH_COOLDOWN ++ D_IDLE)
  | .loopBtn => .seq (PH_BUTTONS ++ D_IDLE)
  | .loopIdle => .seq (PH_IDLE ++ D_IDLE)
  | .evtIn => .ev 0b000#3
  | .evtIgnInRise => .ev 0b001#3
  | .evtOut => .ev 0b010#3
  | .evtIgnOutRise => .ev 0b011#3
  | .evtIgnMotFall => .ev 0b100#3
  | .evtMot => .ev 0b101#3
  | .evtIgnOtherFall => .ev 0b110#3
  | .evtIgnOtherRise => .ev 0b111#3

/-- The code of an event source (R99). -/
def EvtSrc.code : EvtSrc → BitVec 2
  | .transitIn => 0b00#2
  | .transitOut => 0b01#2
  | .motion => 0b10#2
  | .other => 0b11#2

/-- The code of an edge (R99). -/
def EvtEdge.code : EvtEdge → BitVec 1
  | .falling => 0#1
  | .rising => 1#1

/-- The event word `{evt_src[1:0], evt_edge}` (R99). -/
def evWord (src : EvtSrc) (edge : EvtEdge) : EvWord := src.code ++ edge.code

/-- The event source an `evt_src` code names (R99). -/
def srcOfCode (c : BitVec 2) : EvtSrc :=
  match c with
  | 0b00#2 => .transitIn
  | 0b01#2 => .transitOut
  | 0b10#2 => .motion
  | _ => .other

/-- The edge an `evt_edge` code names (R99). -/
def edgeOfCode (c : BitVec 1) : EvtEdge := if c = 0#1 then .falling else .rising

/-- The event a CAPTURE step with this event word delivers. -/
def eventOfWord (w : EvWord) : EnvStep :=
  .capture (srcOfCode (w.extractLsb' 1 2)) (edgeOfCode (w.extractLsb' 0 1))

/-- The word of one of the two formats that a row of the operation map stands for, from its bits `w` and their
number. The map's two formats share the values 0 to 7 of a byte: a number above 7 is a sequencer word; 1 to 7
is an event word, being reserved as a sequencer word; 0 is LOOP.POLL unless the row is known to be an event
word by its number of bits (entry 11). -/
def tableOpWord (nbits w : Nat) : Option OpWord :=
  if nbits ≤ 3 then (if w < 8 then some (.ev (BitVec.ofNat 3 w)) else none)
  else if w = 0 then some (.seq 0#7)
  else if nbits ≠ 7 ∧ w < 8 then some (.ev (BitVec.ofNat 3 w))
  else if w < 128 then some (.seq (BitVec.ofNat 7 w))
  else none

/-- The operation the decoder gives for a row of the operation map (entry 11). -/
def decodeTableWord (nbits w : Nat) : Option Instr :=
  match tableOpWord nbits w with
  | none => none
  | some ow =>
    match decode ow with
    | .ok i => some i
    | .error _ => none

/-- Byte `i` of a frame, 0 the first received: `frame[39-8i : 32-8i]` (R91). -/
def frameByte (f : Frame) (i : Nat) : Byte := f.extractLsb' (32 - 8 * i) 8

/-- One sample shifted in: `{frame[38:0], b}` (R91). -/
def shiftIn (f : Frame) (b : Bool) : Frame := f.extractLsb' 0 39 ++ BitVec.ofBool b

end Sys2Proof
end

