-- ==== Sys2Proof/Machine/State.lean ====
section
/-! DEFINITION. The state of the block (`10_state.md`), the reasons a step can stop, and reset (R48). -/

namespace Sys2Proof.Machine

/-- The decoder's result code (R102). All four two-bit codes are used. -/
inductive ErrCode where
  /-- `ERR_NONE`, a validated reading. -/
  | none
  /-- `ERR_NORESPONSE`. -/
  | noResponse
  /-- `ERR_TIMEOUT`. -/
  | timeout
  /-- `ERR_CHECKSUM`. -/
  | checksum
deriving DecidableEq, Repr

/-- The report codes (R103). Code 111 is reserved and never emitted, so it has no constructor. -/
inductive RepCode where
  /-- `MSG_READING`. -/
  | reading
  /-- `MSG_SENSOR_ERROR`. -/
  | sensorError
  /-- `MSG_ENTERED`. -/
  | entered
  /-- `MSG_REMOVED`. -/
  | removed
  /-- `MSG_MOTION_ON`. -/
  | motionOn
  /-- `MSG_IND_OFF`. -/
  | indOff
  /-- `MSG_M2_ON`. -/
  | m2On
deriving DecidableEq, Repr

/-- One report record `(CODE, a, b)` (R23, R103). -/
structure Report where
  /-- `rep_code`. -/
  code : RepCode
  /-- `rep_a`. -/
  a : Nat
  /-- `rep_b`. -/
  b : Nat
deriving DecidableEq, Repr

/-- The input ports of a MAIN step (R20), as ENV last supplied them. `now` is the clock as a natural number;
the `TW`-bit port is that number modulo `2^TW` (R24). -/
structure Inputs where
  /-- The monotonic microsecond clock. -/
  now : Nat
  /-- The level of the shared line, true high. -/
  sdaIn : Bool
  /-- The start button reads asserted. -/
  btnStart : Bool
  /-- The stop button reads asserted. -/
  btnStop : Bool
deriving DecidableEq, Repr

/-- The state of the block: every register of `10_state.md`, the parameters of the instance (entry 3), and the
model's own fields for ENV (entries 1, 2). Stamps and the count are naturals kept below `2^TW` and `2^CW` by
every write (entry 5). -/
structure State where
  /-- Parameters of the instance, never written (R44; entry 3). -/
  cfg : Config
  /-- Step of the iteration (R27). -/
  phase : Phase
  /-- Step of the decoder (R28). -/
  dstate : DState
  /-- Shift register of the bit slots (R29). -/
  frame : Frame
  /-- Slots sampled in this read (R30). -/
  bitcnt : BitVec 6
  /-- Stamp: the decoder entered its current state (R31). -/
  tMark : Nat
  /-- Result code of the read in progress (R32). -/
  dErr : ErrCode
  /-- Humidity, percent (R33). -/
  dHum : Byte
  /-- Temperature, degrees (R33). -/
  dTemp : Byte
  /-- The line is driven low (R34). -/
  sdaOe : Bool
  /-- Stamp: the last sensor poll (R35). -/
  tPoll : Nat
  /-- Stamp: the closing delay began (R36). -/
  tIdle : Nat
  /-- Outcome of the last poll (R37). -/
  lastErr : ErrCode
  /-- transitIn (R38). -/
  fIn : Bool
  /-- transitOut (R38). -/
  fOut : Bool
  /-- motion (R38). -/
  fMotion : Bool
  /-- The inventory count (R39). -/
  inv : Nat
  /-- Sticky inventory fault (R40). -/
  invOvf : Bool
  /-- The indicator is on (R41). -/
  indOn : Bool
  /-- Stamp: the last drained motion (R41). -/
  tMotion : Nat
  /-- Motor 1 duty, percent (R42). -/
  m1Duty : BitVec 7
  /-- Motor 1 enable (R42). -/
  m1En : Bool
  /-- Motor 2 is On (R43). -/
  m2On : Bool
  /-- The report stream, oldest first (R23). -/
  report : List Report
  /-- The MODEL's: the input ports (R20; entry 1). -/
  inputs : Inputs
  /-- The MODEL's: what ENV will do next, first item first (R105; entry 1). -/
  script : List EnvStep
  /-- The MODEL's: free ENV choices used so far (entry 2). -/
  envDrawn : Nat
deriving DecidableEq, Repr

/-- The program counter: `seq = {phase, dstate}` (R26). -/
def State.seq (s : State) : SeqWord := s.phase ++ s.dstate

/-- Why a step stops. Safe: the spec gives the state no successor. -/
inductive Fault where
  /-- Raised by a MAIN step at a reserved sequencer word (R98, R246). Safe. -/
  | reservedSeq (w : SeqWord)
deriving DecidableEq, Repr

/-- Why a step is not taken. -/
inductive Refusal where
  /-- Raised by `exec` for an operation that has no meaning yet. Safe. -/
  | notModelled (mnemonic : String)
  /-- Raised by a step whose ENV item has a clock value below the previous one: not an admissible ENV
  (93 U16, R10, R24). Safe. -/
  | clockBackwards
deriving DecidableEq, Repr

/-- The state when reset is released at clock value `now0` (R48, R280). The registers R48 leaves unspecified
(`frame`, `bitcnt`, `t_mark`, `d_err`, `d_hum`, `d_temp`, `t_idle`, `t_motion`) are zero (entry 6). -/
def State.resetWith (c : Config) (now0 : Nat) : State where
  cfg := c
  phase := PH_POLL
  dstate := D_IDLE
  frame := 0#40
  bitcnt := 0#6
  tMark := 0
  dErr := .none
  dHum := 0#8
  dTemp := 0#8
  sdaOe := false
  tPoll := now0 % 2 ^ c.tw
  tIdle := 0
  lastErr := .none
  fIn := false
  fOut := false
  fMotion := false
  inv := 0
  invOvf := false
  indOn := false
  tMotion := 0
  m1Duty := 0#7
  m1En := false
  m2On := false
  report := []
  inputs := ⟨now0, true, false, false⟩
  script := []
  envDrawn := 0

/-- The machine right after reset: the nominal instance, released at clock value 0 (entries 4, 7). -/
def State.reset : State := State.resetWith Config.nominal 0

end Sys2Proof.Machine
end

