-- ==== Sys2Proof/Machine/Ops.lean ====
section
/-! DEFINITION. The named operations over registers: the pseudocode primitives of `00_scope.md` section 6, the
raising of a decoder fault (R241), the release of reset (R280). -/

namespace Sys2Proof.Machine

/-- A time as a `TW`-bit register holds it (R24). -/
def stampOf (c : Config) (t : Nat) : Nat := t % 2 ^ c.tw

/-- `(now - t) mod 2^TW` for a clock of `tw` bits (R25, R235). -/
def elapsedMod (tw now t : Nat) : Nat := (now + (2 ^ tw - t % 2 ^ tw)) % 2 ^ tw

/-- `elapsed(t)`, the time since stamp `t` (R25). -/
def State.elapsed (s : State) (t : Nat) : Nat := elapsedMod s.cfg.tw s.inputs.now t

/-- `now` as it is written into a stamp (R25). -/
def State.nowStamp (s : State) : Nat := stampOf s.cfg s.inputs.now

/-- `seq <- (P, D)` (R26). -/
def State.setSeq (s : State) (p : Phase) (d : DState) : State := { s with phase := p, dstate := d }

/-- `LineDrive(b)`: `b` true drives the line low, false releases it (R61). -/
def State.lineDrive (s : State) (b : Bool) : State := { s with sdaOe := b }

/-- `emit CODE(a, b)`: one record at the end of the stream (R23). -/
def State.emit (s : State) (code : RepCode) (a b : Nat) : State :=
  { s with report := s.report ++ [⟨code, a, b⟩] }

/-- The decoder goes to another state and marks the time: `dstate <- next ; t_mark <- now` (R31, R129). -/
def State.enterDState (s : State) (next : DState) : State :=
  { s with dstate := next, tMark := s.nowStamp }

/-- `raise DecodeFault(code)`, the block's taking of an exception: an error return, no state is saved and
control stays in the sequencer's order (R241, R243). -/
def State.raiseDecodeFault (s : State) (code : ErrCode) : State :=
  ({ s with dErr := code, dstate := D_DONE }).lineDrive false

/-- The return from the decoder, fault or not: the outcome is copied, the poll timer restarts, the drains are
next (R186, R243, R244). -/
def State.returnFromDecoder (s : State) : State :=
  ({ s with lastErr := s.dErr, tPoll := s.nowStamp }).setSeq PH_DRAIN_IN D_IDLE

/-- The call of the decoder: the line driven low, the time marked, `frame` and `bitcnt` cleared (R184). -/
def State.callDecoder (s : State) : State :=
  ({ s with tMark := s.nowStamp, frame := 0#40, bitcnt := 0#6 }.lineDrive true).setSeq PH_DECODE D_REQ

/-- One sample into the frame (R91, R126). -/
def State.takeSample (s : State) (b : Bool) : State :=
  { s with frame := shiftIn s.frame b, bitcnt := s.bitcnt + 1#6 }

/-- The release of `rst` at clock value `now0` (R280, R282): the registers as R48 says. The instance and what
ENV will do next are not the block's to reset. -/
def State.releaseReset (s : State) (now0 : Nat) : State :=
  { State.resetWith s.cfg now0 with
    inputs := { s.inputs with now := now0 }, script := s.script, envDrawn := s.envDrawn }

end Sys2Proof.Machine
end

