-- ==== Sys2Proof/Machine/Operands.lean ====
section
/-! DEFINITION. The operands of the operations: the inputs of the step (R20, R62) and the fields of the frame
(R90 to R93). -/

namespace Sys2Proof.Machine

/-- `LineSample()`: the line level of this MAIN step (R62). -/
abbrev State.lineSample (s : State) : Bool := s.inputs.sdaIn

/-- The stamp `t` is at or past the bound `bound` (R235, R262): every timer of the block. -/
def State.timerDone (s : State) (t bound : Nat) : Bool := decide (bound ≤ s.elapsed t)

/-- The sum of bytes 0 to 3 modulo 256 (R92, R233). -/
def frameSum (f : Frame) : Nat :=
  ((frameByte f 0).toNat + (frameByte f 1).toNat + (frameByte f 2).toNat + (frameByte f 3).toNat) % 256

/-- The frame is good: byte 4 is the sum (R92). -/
def frameGood (f : Frame) : Bool := decide ((frameByte f 4).toNat = frameSum f)

/-- Humidity of a good frame, byte 0 (R93). -/
def frameHum (f : Frame) : Byte := frameByte f 0

/-- Temperature of a good frame, byte 2 (R93). -/
def frameTemp (f : Frame) : Byte := frameByte f 2

end Sys2Proof.Machine
end

