-- ==== Sys2Proof/Machine/Flags.lean ====
section
/-! DEFINITION. The one-shot flags (R38, R66 to R68, R168) and the inventory with its sticky fault (R39, R40,
R234). -/

namespace Sys2Proof.Machine

/-- The three edge flags (R38). -/
inductive EdgeFlag where
  /-- `f_in`. -/
  | transitIn
  /-- `f_out`. -/
  | transitOut
  /-- `f_motion`. -/
  | motion
deriving DecidableEq, Repr

/-- The value of a flag. -/
def State.flag (s : State) : EdgeFlag → Bool
  | .transitIn => s.fIn
  | .transitOut => s.fOut
  | .motion => s.fMotion

/-- A flag written. -/
def State.putFlag (s : State) (f : EdgeFlag) (b : Bool) : State :=
  match f with
  | .transitIn => { s with fIn := b }
  | .transitOut => { s with fOut := b }
  | .motion => { s with fMotion := b }

/-- The interrupt's whole handler: one store of 1 (R67, R160, R256). -/
def State.setFlag (s : State) (f : EdgeFlag) : State := s.putFlag f true

/-- `TestAndClear(f)`: the flag's value, and the state with the flag 0 (R66). -/
def State.testAndClear (s : State) (f : EdgeFlag) : Bool × State := (s.flag f, s.putFlag f false)

/-- The greatest count, `2^CW - 1` (R234). -/
def maxCount (c : Config) : Nat := 2 ^ c.cw - 1

/-- Increment: at the top the count holds and the sticky fault is set (R188, R234). -/
def State.invIncrement (s : State) : State :=
  if s.inv = maxCount s.cfg then { s with invOvf := true }
  else { s with inv := (s.inv + 1) % 2 ^ s.cfg.cw }

/-- Decrement: `max(0, inv - 1)` (R190, R234). -/
def State.invDecrement (s : State) : State := { s with inv := s.inv - 1 }

end Sys2Proof.Machine
end

