-- ==== Sys2Proof/Machine/Capture.lean ====
section
/-! DEFINITION. The edge-event capture (`42_edge_capture.md`): the meanings of EVT.*. -/

namespace Sys2Proof.Machine

/-- EVT.IN (R161). -/
def execEvtIn (s : State) : Host.Outcome State Fault Refusal := .next (s.setFlag .transitIn)

/-- EVT.OUT (R162). -/
def execEvtOut (s : State) : Host.Outcome State Fault Refusal := .next (s.setFlag .transitOut)

/-- EVT.MOT (R163). -/
def execEvtMot (s : State) : Host.Outcome State Fault Refusal := .next (s.setFlag .motion)

/-- EVT.IGN, transit-in rising (R164). -/
def execEvtIgnInRise (s : State) : Host.Outcome State Fault Refusal := .next s

/-- EVT.IGN, transit-out rising (R164). -/
def execEvtIgnOutRise (s : State) : Host.Outcome State Fault Refusal := .next s

/-- EVT.IGN, motion falling (R164). -/
def execEvtIgnMotFall (s : State) : Host.Outcome State Fault Refusal := .next s

/-- EVT.IGN, another source falling (R164). -/
def execEvtIgnOtherFall (s : State) : Host.Outcome State Fault Refusal := .next s

/-- EVT.IGN, another source rising (R164). -/
def execEvtIgnOtherRise (s : State) : Host.Outcome State Fault Refusal := .next s

end Sys2Proof.Machine
end

