-- ==== Sys2Proof/Machine/Actuators.lean ====
section
/-! DEFINITION. The actuator command layer (`44_actuators.md`): the functions LOOP.RET and LOOP.BTN call. -/

namespace Sys2Proof.Machine

/-- Motor 1's command: duty in percent and enable (R42). -/
structure MotorCommand where
  /-- Duty, percent. -/
  duty : BitVec 7
  /-- Channel enabled. -/
  en : Bool
deriving DecidableEq, Repr

/-- `M1Command(temp, hum)`: strict, unsigned thresholds (R220, R236). -/
def m1Command (c : Config) (temp hum : Byte) : MotorCommand :=
  if c.humThresh < hum.toNat ∨ c.tempThresh < temp.toNat then ⟨BitVec.ofNat 7 c.dutyFull, true⟩
  else ⟨0#7, false⟩

/-- Motor 1 takes a command (R42, R186). -/
def State.putMotor1 (s : State) (m : MotorCommand) : State := { s with m1Duty := m.duty, m1En := m.en }

/-- `M2Next(m2_on, btn_start, btn_stop)`: start is tested first, at most one transition (R222, R224). -/
def m2Next (m2On btnStart btnStop : Bool) : Bool :=
  if btnStart && !m2On then true else if btnStop && m2On then false else m2On

/-- The start check fires, which is the one occasion of `MSG_M2_ON` (R222, R226). -/
def m2Starts (m2On btnStart : Bool) : Bool := btnStart && !m2On

end Sys2Proof.Machine
end

