-- ==== Sys2Proof/Machine/Decoder.lean ====
section
/-! DEFINITION. The single-wire protocol decoder (`41_decoder.md`): the meanings of DEC.*. -/

namespace Sys2Proof.Machine

/-- The bounded wait of R129: for level `want`, then to `next`. The level is tested before the deadline. -/
def State.boundedWait (s : State) (want : Bool) (next : DState) : State :=
  if s.lineSample = want then s.enterDState next
  else if s.timerDone s.tMark s.cfg.tWait then s.raiseDecodeFault .timeout
  else s

/-- DEC.REQ, the request pulse (R121). -/
def execDecReq (s : State) : Host.Outcome State Fault Refusal :=
  .next (if s.timerDone s.tMark s.cfg.tReq then (s.lineDrive false).enterDState D_TURN else s)

/-- DEC.TURN, the first sample (R122). -/
def execDecTurn (s : State) : Host.Outcome State Fault Refusal :=
  .next
    (if s.timerDone s.tMark s.cfg.tTurn then
      (if s.lineSample then s.raiseDecodeFault .noResponse else s.enterDState D_ACKL)
    else s)

/-- DEC.ACKL, end of the acknowledgement's low pulse (R123, R129). -/
def execDecAckl (s : State) : Host.Outcome State Fault Refusal := .next (s.boundedWait true D_ACKH)

/-- DEC.ACKH, end of the acknowledgement's high pulse (R124, R129). -/
def execDecAckh (s : State) : Host.Outcome State Fault Refusal := .next (s.boundedWait false D_BITH)

/-- DEC.BITH, start of a bit slot (R125, R129). -/
def execDecBith (s : State) : Host.Outcome State Fault Refusal := .next (s.boundedWait true D_BITD)

/-- DEC.BITD, the sampling delay and the sample (R126). -/
def execDecBitd (s : State) : Host.Outcome State Fault Refusal :=
  .next
    (if s.timerDone s.tMark s.cfg.tSample then (s.takeSample s.lineSample).enterDState D_BITL else s)

/-- DEC.BITL, end of a bit slot: a bounded wait for low whose successor is `D_CHK` after the last slot
(R127, R129). -/
def execDecBitl (s : State) : Host.Outcome State Fault Refusal :=
  .next (s.boundedWait false (if s.bitcnt.toNat = s.cfg.nSlots then D_CHK else D_BITH))

/-- DEC.CHK, validation (R128). -/
def execDecChk (s : State) : Host.Outcome State Fault Refusal :=
  .next
    (if frameGood s.frame then
      { s with dHum := frameHum s.frame, dTemp := frameTemp s.frame, dErr := .none, dstate := D_DONE }
    else { s with dErr := .checksum, dstate := D_DONE })

end Sys2Proof.Machine
end

