-- ==== Sys2Proof/Machine/Loop.lean ====
section
/-! DEFINITION. The cooperative control loop (`43_control_loop.md`): the meanings of LOOP.*. -/

namespace Sys2Proof.Machine

/-- LOOP.POLL, test of the poll timer and call of the decoder (R184). -/
def execLoopPoll (s : State) : Host.Outcome State Fault Refusal :=
  .next (if s.timerDone s.tPoll s.cfg.tPoll then s.callDecoder else s.setSeq PH_DRAIN_IN D_IDLE)

/-- LOOP.RET's use of the result: Motor 1 and the reading, or the error report (R186, R221). -/
def State.useResult (s : State) : State :=
  if s.dErr = .none then
    (s.putMotor1 (m1Command s.cfg s.dTemp s.dHum)).emit .reading s.dTemp.toNat s.dHum.toNat
  else s.emit .sensorError 0 0

/-- LOOP.RET, return from the decoder and use of its result (R186). -/
def execLoopRet (s : State) : Host.Outcome State Fault Refusal := .next s.useResult.returnFromDecoder

/-- The drain of a flag: read and cleared in one step, its action applied where it was set (R66, R188, R190,
R192). -/
def State.drain (s : State) (f : EdgeFlag) (action : State → State) : State :=
  if (s.testAndClear f).1 then action (s.testAndClear f).2 else (s.testAndClear f).2

/-- The action of a drained transitIn: count and report the count after the update (R188). -/
def State.itemEntered (s : State) : State := s.invIncrement.emit .entered s.invIncrement.inv 0

/-- LOOP.DRIN, drain of transitIn (R188). -/
def execLoopDrin (s : State) : Host.Outcome State Fault Refusal :=
  .next ((s.drain .transitIn State.itemEntered).setSeq PH_DRAIN_OUT D_IDLE)

/-- The action of a drained transitOut: count down, not below 0, and report the count after it (R190). -/
def State.itemRemoved (s : State) : State := s.invDecrement.emit .removed s.invDecrement.inv 0

/-- LOOP.DROUT, drain of transitOut (R190). -/
def execLoopDrout (s : State) : Host.Outcome State Fault Refusal :=
  .next ((s.drain .transitOut State.itemRemoved).setSeq PH_DRAIN_MOTION D_IDLE)

/-- The action of a drained motion: indicator on with a report if it was off, and the stamp in either case
(R192). -/
def State.motionSeen (s : State) : State :=
  if s.indOn then { s with tMotion := s.nowStamp }
  else { s with indOn := true, tMotion := s.nowStamp }.emit .motionOn 0 0

/-- LOOP.DRMOT, drain of motion (R192). -/
def execLoopDrmot (s : State) : Host.Outcome State Fault Refusal :=
  .next ((s.drain .motion State.motionSeen).setSeq PH_COOLDOWN D_IDLE)

/-- LOOP.COOL, the cooldown check (R194). -/
def execLoopCool (s : State) : Host.Outcome State Fault Refusal :=
  .next
    ((if s.indOn && s.timerDone s.tMotion s.cfg.tCool then { s with indOn := false }.emit .indOff 0 0
      else s).setSeq PH_BUTTONS D_IDLE)

/-- Motor 2's transition with its report (R196, R222). -/
def State.sampleButtons (s : State) : State :=
  if m2Starts s.m2On s.inputs.btnStart then
    { s with m2On := m2Next s.m2On s.inputs.btnStart s.inputs.btnStop }.emit .m2On 0 0
  else { s with m2On := m2Next s.m2On s.inputs.btnStart s.inputs.btnStop }

/-- LOOP.BTN, button sampling and the Motor 2 machine (R196). -/
def execLoopBtn (s : State) : Host.Outcome State Fault Refusal :=
  .next (({ s.sampleButtons with tIdle := s.nowStamp }).setSeq PH_IDLE D_IDLE)

/-- LOOP.IDLE, the closing delay (R198, R266). -/
def execLoopIdle (s : State) : Host.Outcome State Fault Refusal :=
  .next (if s.timerDone s.tIdle s.cfg.tIdle then s.setSeq PH_POLL D_IDLE else s)

end Sys2Proof.Machine
end

