-- ==== Sys2Proof/Machine/Dispatch.lean ====
section
/-! DEFINITION. The operation of a step: one arm per row of the operation map (R96, R100). -/

namespace Sys2Proof.Machine

def exec (i : Instr) (s : State) : Host.Outcome State Fault Refusal :=
  match i with
  | .loopPoll => Sys2Proof.Machine.execLoopPoll s
  | .decReq => Sys2Proof.Machine.execDecReq s
  | .decTurn => Sys2Proof.Machine.execDecTurn s
  | .decAckl => Sys2Proof.Machine.execDecAckl s
  | .decAckh => Sys2Proof.Machine.execDecAckh s
  | .decBith => Sys2Proof.Machine.execDecBith s
  | .decBitd => Sys2Proof.Machine.execDecBitd s
  | .decBitl => Sys2Proof.Machine.execDecBitl s
  | .decChk => Sys2Proof.Machine.execDecChk s
  | .loopRet => Sys2Proof.Machine.execLoopRet s
  | .loopDrin => Sys2Proof.Machine.execLoopDrin s
  | .loopDrout => Sys2Proof.Machine.execLoopDrout s
  | .loopDrmot => Sys2Proof.Machine.execLoopDrmot s
  | .loopCool => Sys2Proof.Machine.execLoopCool s
  | .loopBtn => Sys2Proof.Machine.execLoopBtn s
  | .loopIdle => Sys2Proof.Machine.execLoopIdle s
  | .evtIn => Sys2Proof.Machine.execEvtIn s
  | .evtIgnInRise => Sys2Proof.Machine.execEvtIgnInRise s
  | .evtOut => Sys2Proof.Machine.execEvtOut s
  | .evtIgnOutRise => Sys2Proof.Machine.execEvtIgnOutRise s
  | .evtIgnMotFall => Sys2Proof.Machine.execEvtIgnMotFall s
  | .evtMot => Sys2Proof.Machine.execEvtMot s
  | .evtIgnOtherFall => Sys2Proof.Machine.execEvtIgnOtherFall s
  | .evtIgnOtherRise => Sys2Proof.Machine.execEvtIgnOtherRise s

end Sys2Proof.Machine
end

