-- ==== Sys2Proof/Machine/Agents.lean ====
section
/-! DEFINITION. What a step does around the operation: ENV's next item, the three things an item can be, the
dispatch on `seq` or on the event word (R10, R46, R96, R100, R280). -/

namespace Sys2Proof.Machine

/-- A free ENV item with its clock value read as an advance from `last`, so that the clock never goes back
(R10, R24; entry 2). -/
def advanceBy (last : Nat) : EnvStep → EnvStep
  | .main d sda bs bp => .main (last + d) sda bs bp
  | .capture src edge => .capture src edge
  | .reset d => .reset (last + d)

/-- ENV's next item: the script's head, or a free choice where the script has run out (entries 1, 2). -/
def State.nextItem (s : State) : EnvStep :=
  match s.script with
  | e :: _ => e
  | [] => advanceBy s.inputs.now (Config.freeEnv s.envDrawn)

/-- The state once that item is taken from the script, or the free choice is used. -/
def State.takeItem (s : State) : State :=
  match s.script with
  | _ :: rest => { s with script := rest }
  | [] => { s with envDrawn := s.envDrawn + 1 }

/-- A MAIN step: the operation `seq` selects, on these inputs (R10, R96); a reserved `seq` is the model fault
(R98), a clock gone backwards is refused (93 U16). -/
def mainStep (inp : Inputs) (s : State) : Host.Outcome State Fault Refusal :=
  if inp.now < s.inputs.now then .refused .clockBackwards
  else
    match decodeSeq s.seq with
    | .ok i => exec i { s with inputs := inp }
    | .error (.reservedSeq w) => .fault (.reservedSeq w)

/-- A CAPTURE step: the operation the event word selects (R10, R100); it carries no time. -/
def captureStep (src : EvtSrc) (edge : EvtEdge) (s : State) : Host.Outcome State Fault Refusal :=
  exec (decodeEv (evWord src edge)) s

/-- `rst` released at `now0` (R280; entry 10). -/
def resetStep (now0 : Nat) (s : State) : Host.Outcome State Fault Refusal :=
  if now0 < s.inputs.now then .refused .clockBackwards else .next (s.releaseReset now0)

/-- One item of ENV delivered to the block. -/
def deliver (e : EnvStep) (s : State) : Host.Outcome State Fault Refusal :=
  match e with
  | .main now sda bs bp => mainStep ⟨now, sda, bs, bp⟩ s
  | .capture src edge => captureStep src edge s
  | .reset now0 => resetStep now0 s

/-- The item by which a word of the operation map runs next, and the sequencer word it needs (entry 11): a
sequencer word needs `seq` to hold it and a MAIN step on the inputs as they stand; an event word needs a CAPTURE
step with that event. -/
def State.placeWord (s : State) : OpWord → State
  | .seq w =>
    { s with
      phase := w.extractLsb' 4 3, dstate := w.extractLsb' 0 4,
      script := .main s.inputs.now s.inputs.sdaIn s.inputs.btnStart s.inputs.btnStop :: s.script }
  | .ev w => { s with script := eventOfWord w :: s.script }

end Sys2Proof.Machine
end

