-- ==== Sys2Proof/Machine/Ports.lean ====
section
/-! DEFINITION. What is seen from outside: the level outputs (R22), the codes of R102 and R103 as numbers, the
report port (R23), and the rendering of a record as a console line (R104). -/

namespace Sys2Proof.Machine

/-- The number of a result code (R102). -/
def ErrCode.bits : ErrCode → BitVec 2
  | .none => 0b00#2
  | .noResponse => 0b01#2
  | .timeout => 0b10#2
  | .checksum => 0b11#2

/-- `rep_code` (R103). -/
def RepCode.bits : RepCode → BitVec 3
  | .reading => 0b000#3
  | .sensorError => 0b001#3
  | .entered => 0b010#3
  | .removed => 0b011#3
  | .motionOn => 0b100#3
  | .indOff => 0b101#3
  | .m2On => 0b110#3

/-- The level outputs (R22). -/
structure Outputs where
  /-- 1 drives the line low. -/
  sdaOe : Bool
  /-- Motor 1 duty, percent. -/
  m1Duty : BitVec 7
  /-- Motor 1 enable. -/
  m1En : Bool
  /-- Motor 2 duty, percent. -/
  m2Duty : BitVec 7
  /-- Motor 2 enable. -/
  m2En : Bool
  /-- Indicator light. -/
  ind : Bool
deriving DecidableEq, Repr

/-- Motor 2's command as a function of its state (R43, R226). -/
def m2Command (c : Config) (m2On : Bool) : MotorCommand :=
  if m2On then ⟨BitVec.ofNat 7 c.dutyM2On, true⟩ else ⟨0#7, false⟩

/-- The level outputs of a state (R22). -/
def State.outputs (s : State) : Outputs where
  sdaOe := s.sdaOe
  m1Duty := s.m1Duty
  m1En := s.m1En
  m2Duty := (m2Command s.cfg s.m2On).duty
  m2En := (m2Command s.cfg s.m2On).en
  ind := s.indOn

/-- The report port of the step from `s` to `t`: the record it emitted, if any (R23). -/
def reportPort (s t : State) : Option Report := (t.report.drop s.report.length).head?

/-- A record as the source's console line (R104). -/
def Report.line (r : Report) : String :=
  match r.code with
  | .reading => "Temp: " ++ r.a.repr ++ "C  Humidity: " ++ r.b.repr ++ "%"
  | .sensorError => "Error reading sensor"
  | .entered => "Product entered. Inventory: " ++ r.a.repr
  | .removed => "Product removed. Inventory: " ++ r.a.repr
  | .motionOn => "Motion detected - indicator on"
  | .indOff => "Indicator off (no motion)"
  | .m2On => "Motor 2 on"

end Sys2Proof.Machine
end

