-- ==== Sys2Proof/Machine/Step.lean ====
section
/-! DEFINITION. One step of the machine, and the placing of a word where the next step runs it. -/

namespace Sys2Proof.Machine

/-- One step: ENV's next item is taken and delivered (R10). -/
def step (s : State) : Host.Outcome State Fault Refusal := deliver s.nextItem s.takeItem

/-- The word of the operation map placed so that the next step runs it (entry 11). A number that is no word of
either format changes nothing. -/
def State.withFetchWord (s : State) (nbits w : Nat) : State :=
  match tableOpWord nbits w with
  | some ow => s.placeWord ow
  | none => s

end Sys2Proof.Machine
end

