-- ==== Sys2Proof/Safety.lean ====
section
/-! DEFINITION. What counts as a safe state, in the terms statements use: the invariants the spec gives the
block, the premises it puts on ENV (R141), and which registers a state still needs (R48). -/

namespace Sys2Proof.Machine

/-! ## Invariants of the block -/

/-- R28, R97: `dstate` is `D_IDLE` outside a read and one of `D_REQ` to `D_DONE` inside. -/
abbrev State.seqLegal (s : State) : Prop :=
  if s.phase = PH_DECODE then D_REQ ≤ s.dstate ∧ s.dstate ≤ D_DONE else s.dstate = D_IDLE

/-- R34: the line is driven low exactly while `dstate = D_REQ`. -/
abbrev State.lineOwned (s : State) : Prop := s.sdaOe = true ↔ s.dstate = D_REQ

/-- R25, R39: stamps and the count fit their registers (entry 5). -/
abbrev State.widthsHeld (s : State) : Prop :=
  s.tMark < 2 ^ s.cfg.tw ∧ s.tPoll < 2 ^ s.cfg.tw ∧ s.tIdle < 2 ^ s.cfg.tw ∧ s.tMotion < 2 ^ s.cfg.tw ∧
    s.inv < 2 ^ s.cfg.cw

/-- R42: `m1_en = 1` exactly when `m1_duty = DUTY_FULL`; the duty is full or zero (R232). -/
abbrev State.motor1Coherent (s : State) : Prop :=
  (s.m1En = true ↔ s.m1Duty = BitVec.ofNat 7 s.cfg.dutyFull) ∧ (s.m1En = false → s.m1Duty = 0#7)

/-- R30, R126: how many slots have been sampled, by the state of the decoder; the bits not yet sampled are 0. -/
abbrev State.slotsCounted (s : State) : Prop :=
  s.phase = PH_DECODE →
    s.frame.toNat < 2 ^ s.bitcnt.toNat ∧ s.bitcnt.toNat ≤ s.cfg.nSlots ∧
    (s.dstate ≤ D_ACKH → s.bitcnt = 0#6) ∧
    (s.dstate = D_BITH ∨ s.dstate = D_BITD → s.bitcnt.toNat < s.cfg.nSlots) ∧
    (s.dstate = D_BITL → 0 < s.bitcnt.toNat) ∧
    (s.dstate = D_CHK → s.bitcnt.toNat = s.cfg.nSlots)

/-- The invariant of the block, on an admissible instance. -/
abbrev State.good (s : State) : Prop :=
  s.cfg.wf = true ∧ s.seqLegal ∧ s.lineOwned ∧ s.widthsHeld ∧ s.motor1Coherent ∧ s.slotsCounted

/-- MAIN is inside the decoder (R63). -/
abbrev State.inRead (s : State) : Prop := s.phase = PH_DECODE

/-! ## The order of an iteration (R181) -/

/-- The operations that may follow a MAIN operation at its next step, itself where the rule lets it wait (R181,
with the decoder's own order of R121 to R128 and the end of a read by a fault, R241). -/
def successors : Instr → List Instr
  | .loopPoll => [.decReq, .loopDrin]
  | .decReq => [.decReq, .decTurn]
  | .decTurn => [.decTurn, .decAckl, .loopRet]
  | .decAckl => [.decAckl, .decAckh, .loopRet]
  | .decAckh => [.decAckh, .decBith, .loopRet]
  | .decBith => [.decBith, .decBitd, .loopRet]
  | .decBitd => [.decBitd, .decBitl]
  | .decBitl => [.decBitl, .decBith, .decChk, .loopRet]
  | .decChk => [.loopRet]
  | .loopRet => [.loopDrin]
  | .loopDrin => [.loopDrout]
  | .loopDrout => [.loopDrmot]
  | .loopDrmot => [.loopCool]
  | .loopCool => [.loopBtn]
  | .loopBtn => [.loopIdle]
  | .loopIdle => [.loopIdle, .loopPoll]
  | .evtIn | .evtIgnInRise | .evtOut | .evtIgnOutRise | .evtIgnMotFall | .evtMot | .evtIgnOtherFall
  | .evtIgnOtherRise => []

/-! ## The inventory as a sequence of drained events (R203) -/

/-- A drained flag that acts on the count (R203). -/
inductive DrainedEvent where
  /-- A drained transitIn. -/
  | entered
  /-- A drained transitOut. -/
  | removed
deriving DecidableEq, Repr

/-- One drained event on an unbounded count: `+1`, or `max(0, x - 1)` (R203). -/
def DrainedEvent.apply (c : Nat) : DrainedEvent → Nat
  | .entered => c + 1
  | .removed => c - 1

/-- Drained events applied one by one from count `c` (R203). -/
def foldEvents (c : Nat) (events : List DrainedEvent) : Nat := events.foldl DrainedEvent.apply c

/-- The same events drained by the machine's operations on its state, in that order. -/
def State.drainAll (s : State) (events : List DrainedEvent) : State :=
  events.foldl (fun u e => match e with | .entered => u.itemEntered | .removed => u.itemRemoved) s

/-- No removal meets a zero count and is later followed by an entry (the condition of R203 under which
`max(0, c + n - m)` is exact). -/
def noLateEntry (c : Nat) : List DrainedEvent → Bool
  | [] => true
  | .entered :: rest => noLateEntry (c + 1) rest
  | .removed :: rest => if c = 0 then !rest.contains .entered else noLateEntry (c - 1) rest

/-! ## An edge against the drain of its flag (R73) -/

/-- Between `s` and `t` the action of the drained flag was applied, once: the count up, or held at the top with the
sticky fault (R188); the count down, not below 0 (R190); the indicator on and its stamp rewritten, the record only
where it was off (R192). -/
def State.actedOnce (s t : State) : EdgeFlag → Prop
  | .transitIn =>
    (s.inv < 2 ^ s.cfg.cw - 1 → t.inv = s.inv + 1 ∧ t.invOvf = s.invOvf) ∧
    (s.inv = 2 ^ s.cfg.cw - 1 → t.inv = s.inv ∧ t.invOvf = true) ∧
    t.report = s.report ++ [⟨.entered, t.inv, 0⟩]
  | .transitOut => t.inv = s.inv - 1 ∧ t.report = s.report ++ [⟨.removed, t.inv, 0⟩]
  | .motion =>
    t.indOn = true ∧ t.tMotion = s.inputs.now % 2 ^ s.cfg.tw ∧
    t.report = if s.indOn = true then s.report else s.report ++ [⟨.motionOn, 0, 0⟩]

/-- Between `s` and `t` no flag's action was applied. -/
def State.notActed (s t : State) : Prop :=
  t.inv = s.inv ∧ t.invOvf = s.invOvf ∧ t.indOn = s.indOn ∧ t.tMotion = s.tMotion ∧ t.report = s.report

/-! ## The registers a state still needs (R48) -/

/-- Two states agree on everything that some operation can still read before writing it: they may differ in
`frame`, `bitcnt`, `t_mark` outside a read, in `d_err` before the result is ready, in `d_hum` and `d_temp`
unless a good result is ready, in `t_idle` outside the idle delay, in `t_motion` while the indicator is off. -/
structure SameLive (s t : State) : Prop where
  cfg : s.cfg = t.cfg
  phase : s.phase = t.phase
  dstate : s.dstate = t.dstate
  sdaOe : s.sdaOe = t.sdaOe
  tPoll : s.tPoll = t.tPoll
  lastErr : s.lastErr = t.lastErr
  fIn : s.fIn = t.fIn
  fOut : s.fOut = t.fOut
  fMotion : s.fMotion = t.fMotion
  inv : s.inv = t.inv
  invOvf : s.invOvf = t.invOvf
  indOn : s.indOn = t.indOn
  m1Duty : s.m1Duty = t.m1Duty
  m1En : s.m1En = t.m1En
  m2On : s.m2On = t.m2On
  report : s.report = t.report
  inputs : s.inputs = t.inputs
  script : s.script = t.script
  envDrawn : s.envDrawn = t.envDrawn
  inRead : s.phase = PH_DECODE → s.frame = t.frame ∧ s.bitcnt = t.bitcnt ∧ s.tMark = t.tMark
  resultCode : s.phase = PH_DECODE → s.dstate = D_DONE → s.dErr = t.dErr
  result : s.phase = PH_DECODE → s.dstate = D_DONE → s.dErr = .none → s.dHum = t.dHum ∧ s.dTemp = t.dTemp
  idle : s.phase = PH_IDLE → s.tIdle = t.tIdle
  motion : s.indOn = true → s.tMotion = t.tMotion

/-- Two outcomes are the same stop, or two next states that agree on what is still needed. -/
def SameLiveOutcome : Host.Outcome State Fault Refusal → Host.Outcome State Fault Refusal → Prop
  | .next s, .next t => SameLive s t
  | .fault f, .fault g => f = g
  | .refused r, .refused q => r = q
  | _, _ => False

/-! ## The sensor's answer and the premise of an exact decode (R141) -/

/-- The sensor's answer (R141): when the low of the acknowledgement begins and how long each level holds. -/
structure Waveform where
  /-- Start of the acknowledgement's low pulse. -/
  t0 : Nat
  /-- Width of the acknowledgement's low pulse. -/
  al : Nat
  /-- Width of the acknowledgement's high pulse. -/
  ah : Nat
  /-- Width of the low before each bit. -/
  lb : Nat
  /-- Width of the high of a 0. -/
  h0 : Nat
  /-- Width of the high of a 1. -/
  h1 : Nat
  /-- Width of the final low. -/
  le : Nat
deriving DecidableEq, Repr

/-- The width of a bit's high pulse, `H(b)` (R141). -/
def Waveform.high (w : Waveform) (b : Bool) : Nat := if b then w.h1 else w.h0

/-- The level `d` after the first bit's low began, the bits still to come given: for each bit low then high,
then the final low, then high; half-open intervals (R141, D23). -/
def Waveform.bitsLevel (w : Waveform) : List Bool → Nat → Bool
  | [], d => decide (w.le ≤ d)
  | b :: rest, d =>
    if d < w.lb then false
    else if d < w.lb + w.high b then true
    else w.bitsLevel rest (d - (w.lb + w.high b))

/-- The level of the line at time `t`, `bits` being sent (R141). -/
def Waveform.level (w : Waveform) (bits : List Bool) (t : Nat) : Bool :=
  if t < w.t0 then true
  else if t < w.t0 + w.al then false
  else if t < w.t0 + w.al + w.ah then true
  else w.bitsLevel bits (t - (w.t0 + w.al + w.ah))

/-- When the line goes high after the last bit's final low. -/
def Waveform.finish (w : Waveform) (bits : List Bool) : Nat :=
  w.t0 + w.al + w.ah + (bits.map fun b => w.lb + w.high b).sum + w.le

/-- The conditions of R141 for a release at `r` and MAIN steps at most `g` apart. -/
abbrev Waveform.wellTimed (w : Waveform) (c : Config) (r g : Nat) : Prop :=
  r ≤ w.t0 ∧ w.t0 ≤ r + c.tTurn ∧ c.tTurn + g < (w.t0 - r) + w.al ∧
  g ≤ w.ah ∧ g ≤ w.lb ∧ g ≤ w.le ∧ g ≤ w.h0 ∧
  w.h0 ≤ c.tSample ∧
  c.tSample + 2 * g < w.h1 ∧
  c.tSample + 3 * g < w.h0 + min w.lb w.le ∧
  w.al < c.tWait ∧ w.ah < c.tWait ∧ w.lb < c.tWait ∧ w.h1 < c.tWait ∧ w.le < c.tWait

/-- One item of ENV during a read, `last` being the clock value before it: a MAIN step at most `g` later whose
line level is the waveform's, or a CAPTURE step; no reset (R141, R132). -/
def itemFollowsWave (w : Waveform) (bits : List Bool) (g last : Nat) : EnvStep → Bool
  | .main now sda _ _ => decide (now ≤ last + g) && (sda == w.level bits now)
  | .capture _ _ => true
  | .reset _ => false

/-- The number that bits spell, first bit most significant: with `n` bits, the sum of `b_k * 2^(n-1-k)` (R91,
R140). -/
def bitsNat (bits : List Bool) : Nat :=
  (bits.zipIdx.map fun bk => bk.1.toNat * 2 ^ (bits.length - 1 - bk.2)).sum

/-- Byte `i` of forty bits: bits `8i` to `8i + 7` (R65). -/
def bitsByte (bits : List Bool) (i : Nat) : Nat := bitsNat ((bits.drop (8 * i)).take 8)

/-- Forty bits carry a good checksum: byte 4 is the sum of bytes 0 to 3 modulo 256 (R92). -/
abbrev bitsGood (bits : List Bool) : Prop :=
  bitsByte bits 4 = (bitsByte bits 0 + bitsByte bits 1 + bitsByte bits 2 + bitsByte bits 3) % 256

/-- The level the next step samples into the frame, if that step is a DEC.BITD whose delay has run (R126). -/
def State.sampled (s : State) : Option Bool :=
  match s.nextItem with
  | .main now sda _ _ =>
    if s.phase = PH_DECODE ∧ s.dstate = D_BITD ∧ (s.cfg.tSample : Int) ≤ ((now : Int) - s.tMark) % 2 ^ s.cfg.tw
    then some sda else none
  | _ => none

/-- The levels that the first `n` steps from `s` sample (R140's `b_0`, `b_1`, …). -/
def samplesOf : Nat → State → List Bool
  | 0, _ => []
  | n + 1, s =>
    match step s with
    | .next t => s.sampled.toList ++ samplesOf n t
    | _ => []

/-! ## Time, as the rules write it -/

/-- `(now - t) mod 2^TW` over the integers (R25, R235). -/
def State.since (s : State) (t : Nat) : Int := ((s.inputs.now : Int) - t) % 2 ^ s.cfg.tw

/-- The most a read can last when MAIN steps are at most `g` apart (R142). -/
def readBound (c : Config) (g : Nat) : Nat :=
  c.tReq + c.tTurn + 82 * c.tWait + c.nSlots * c.tSample + 126 * g

end Sys2Proof.Machine
end

