-- ==== Sys2Proof/Certificates/Slice0/Obligations.lean ====
section
/-! DEFINITION. The statements for the provers. `spec/` is cited by rule number; a docstring says where a
statement rests on a choice of the model, with its log entry. In a result statement the next state is written
out as an update of the state before, so the frame (everything else unchanged) is part of the statement. -/

open Sys2Proof Sys2Proof.Machine

/-! ## Encodings -/

/-- One word of each family, written out from R96 and R100. -/
def Obligations.SampleWordsDecode : Prop :=
  decode (.seq 0b0000000#7) = .ok .loopPoll ∧ decode (.seq 0b0010001#7) = .ok .decReq ∧
  decode (.seq 0b0010110#7) = .ok .decBitd ∧ decode (.seq 0b0011001#7) = .ok .loopRet ∧
  decode (.seq 0b0100000#7) = .ok .loopDrin ∧ decode (.seq 0b1110000#7) = .ok .loopIdle ∧
  decode (.ev 0b000#3) = .ok .evtIn ∧ decode (.ev 0b010#3) = .ok .evtOut ∧
  decode (.ev 0b101#3) = .ok .evtMot ∧ decode (.ev 0b111#3) = .ok .evtIgnOtherRise

/-- Decoding the word of an operation gives the operation back, for all 24. -/
def Obligations.EncodeThenDecode : Prop := ∀ i : Instr, decode (encode i) = .ok i

/-- A word that decodes is the word of the operation it decodes to: no two words share an operation. -/
def Obligations.DecodeThenEncode : Prop := ∀ (w : OpWord) (i : Instr), decode w = .ok i → encode i = w

/-- R98: a sequencer word is rejected exactly when it is one of the reserved patterns. -/
def Obligations.ReservedWordsRejected : Prop :=
  ∀ (p : Phase) (d : DState),
    decodeSeq (p ++ d) = .error (.reservedSeq (p ++ d)) ↔
      (p = 0b001#3 ∧ (d = 0b0000#4 ∨ 0b1010#4 ≤ d)) ∨ (p ≠ 0b001#3 ∧ d ≠ 0b0000#4)

/-- R100: the pair (source, edge) selects the operation; the five other pairs are ignored. -/
def Obligations.EventPairsDispatch : Prop :=
  decodeEv (evWord .transitIn .falling) = .evtIn ∧ decodeEv (evWord .transitOut .falling) = .evtOut ∧
  decodeEv (evWord .motion .rising) = .evtMot ∧
  ∀ (src : EvtSrc) (edge : EvtEdge) (s : State),
    (src, edge) ≠ (.transitIn, .falling) → (src, edge) ≠ (.transitOut, .falling) →
    (src, edge) ≠ (.motion, .rising) →
    exec (decodeEv (evWord src edge)) s = .next s

/-! ## The step -/

/-- A MAIN step runs the operation `seq` decodes to, on the inputs ENV supplies (R10, R96). What the step adds
around `exec` is the model's: the item leaves the script, or a free choice is used (entries 1, 2). -/
def Obligations.StepRunsMainOperation : Prop :=
  ∀ (s : State) (now : Nat) (sda bs bp : Bool) (i : Instr),
    s.nextItem = .main now sda bs bp → s.inputs.now ≤ now → decode (.seq s.seq) = .ok i →
    step s = exec i { s.takeItem with inputs := ⟨now, sda, bs, bp⟩ }

/-- A CAPTURE step runs the operation the event word decodes to (R10, R100); inputs and clock stay. -/
def Obligations.StepRunsCaptureOperation : Prop :=
  ∀ (s : State) (src : EvtSrc) (edge : EvtEdge) (i : Instr),
    s.nextItem = .capture src edge → decode (.ev (evWord src edge)) = .ok i → step s = exec i s.takeItem

/-- R98: a MAIN step at a reserved sequencer word is the model fault `ReservedSeq(seq)`, no successor. -/
def Obligations.ReservedSeqFaults : Prop :=
  ∀ (s : State) (now : Nat) (sda bs bp : Bool),
    s.nextItem = .main now sda bs bp → s.inputs.now ≤ now → ¬ s.seqLegal →
    step s = .fault (.reservedSeq s.seq)

/-- 93 U16 (the model's form: entry 9): an item whose clock value is below the last one is refused. -/
def Obligations.ClockBackwardsRefused : Prop :=
  ∀ (s : State) (t : Nat),
    s.nextItem.time? = some t → t < s.inputs.now → step s = .refused .clockBackwards

/-- R280, R282: releasing `rst` at `n` (the item is the model's form, entry 10) gives R48's values, whatever the
state, a read in progress included: line released, flags lost, count 0, poll timer at `n`. -/
def Obligations.ResetReleasesEverything : Prop :=
  ∀ (s : State) (n : Nat), s.nextItem = .reset n → s.inputs.now ≤ n →
    ∃ t, step s = .next t ∧ t.phase = PH_POLL ∧ t.dstate = D_IDLE ∧ t.sdaOe = false ∧
      t.tPoll = n % 2 ^ s.cfg.tw ∧ t.fIn = false ∧ t.fOut = false ∧ t.fMotion = false ∧ t.inv = 0 ∧
      t.invOvf = false ∧ t.indOn = false ∧ t.m1Duty = 0#7 ∧ t.m1En = false ∧ t.m2On = false ∧
      t.lastErr = .none ∧ t.report = [] ∧ t.cfg = s.cfg ∧ t.inputs.now = n

/-! ## What each operation does -/

/-- LOOP.POLL (R184). -/
def Obligations.LoopPollResult : Prop :=
  decode (.seq 0b0000000#7) = .ok .loopPoll ∧
  ∀ s : State, exec .loopPoll s = .next
    (if (s.cfg.tPoll : Int) ≤ s.since s.tPoll then
      { s with
        sdaOe := true, tMark := s.inputs.now % 2 ^ s.cfg.tw, frame := 0, bitcnt := 0,
        phase := PH_DECODE, dstate := D_REQ }
    else { s with phase := PH_DRAIN_IN, dstate := D_IDLE })

/-- DEC.REQ (R121). -/
def Obligations.DecReqResult : Prop :=
  decode (.seq 0b0010001#7) = .ok .decReq ∧
  ∀ s : State, exec .decReq s = .next
    (if (s.cfg.tReq : Int) ≤ s.since s.tMark then
      { s with sdaOe := false, dstate := D_TURN, tMark := s.inputs.now % 2 ^ s.cfg.tw }
    else s)

/-- DEC.TURN (R122). -/
def Obligations.DecTurnResult : Prop :=
  decode (.seq 0b0010010#7) = .ok .decTurn ∧
  ∀ s : State, exec .decTurn s = .next
    (if (s.cfg.tTurn : Int) ≤ s.since s.tMark then
      (if s.inputs.sdaIn = true then { s with dErr := .noResponse, dstate := D_DONE, sdaOe := false }
      else { s with dstate := D_ACKL, tMark := s.inputs.now % 2 ^ s.cfg.tw })
    else s)

/-- DEC.ACKL, DEC.ACKH and DEC.BITH, the bounded waits with a fixed successor (R123, R124, R125 over R129). -/
def Obligations.BoundedWaitResults : Prop :=
  decode (.seq 0b0010011#7) = .ok .decAckl ∧ decode (.seq 0b0010100#7) = .ok .decAckh ∧
  decode (.seq 0b0010101#7) = .ok .decBith ∧
  ∀ (s : State) (i : Instr) (want : Bool) (next : DState),
    (i, want, next) = (.decAckl, true, D_ACKH) ∨ (i, want, next) = (.decAckh, false, D_BITH) ∨
      (i, want, next) = (.decBith, true, D_BITD) →
    exec i s = .next
      (if s.inputs.sdaIn = want then { s with dstate := next, tMark := s.inputs.now % 2 ^ s.cfg.tw }
      else if (s.cfg.tWait : Int) ≤ s.since s.tMark then
        { s with dErr := .timeout, dstate := D_DONE, sdaOe := false }
      else s)

/-- DEC.BITD (R126): the frame shifts left and the level enters at bit 0. -/
def Obligations.DecBitdResult : Prop :=
  decode (.seq 0b0010110#7) = .ok .decBitd ∧
  ∀ s : State, exec .decBitd s = .next
    (if (s.cfg.tSample : Int) ≤ s.since s.tMark then
      { s with
        frame := BitVec.ofNat 40 (2 * s.frame.toNat + s.inputs.sdaIn.toNat), bitcnt := s.bitcnt + 1,
        dstate := D_BITL, tMark := s.inputs.now % 2 ^ s.cfg.tw }
    else s)

/-- DEC.BITL (R127). -/
def Obligations.DecBitlResult : Prop :=
  decode (.seq 0b0010111#7) = .ok .decBitl ∧
  ∀ s : State, exec .decBitl s = .next
    (if s.inputs.sdaIn = false then
      { s with
        tMark := s.inputs.now % 2 ^ s.cfg.tw,
        dstate := if s.bitcnt.toNat = s.cfg.nSlots then D_CHK else D_BITH }
    else if (s.cfg.tWait : Int) ≤ s.since s.tMark then
      { s with dErr := .timeout, dstate := D_DONE, sdaOe := false }
    else s)

/-- DEC.CHK (R128, R92, R93), the bytes cut from the frame's number. -/
def Obligations.DecChkResult : Prop :=
  decode (.seq 0b0011000#7) = .ok .decChk ∧
  ∀ (s : State) (b0 b1 b2 b3 b4 : Nat),
    b0 < 256 → b1 < 256 → b2 < 256 → b3 < 256 → b4 < 256 →
    s.frame.toNat = (((b0 * 256 + b1) * 256 + b2) * 256 + b3) * 256 + b4 →
    exec .decChk s = .next
      (if b4 = (b0 + b1 + b2 + b3) % 256 then
        { s with dHum := BitVec.ofNat 8 b0, dTemp := BitVec.ofNat 8 b2, dErr := .none, dstate := D_DONE }
      else { s with dErr := .checksum, dstate := D_DONE })

/-- LOOP.RET (R186, with `M1Command` of R220). -/
def Obligations.LoopRetResult : Prop :=
  decode (.seq 0b0011001#7) = .ok .loopRet ∧
  ∀ s : State,
    (s.dErr = .none → s.cfg.humThresh < s.dHum.toNat ∨ s.cfg.tempThresh < s.dTemp.toNat →
      exec .loopRet s = .next { s with
        m1Duty := BitVec.ofNat 7 s.cfg.dutyFull, m1En := true,
        report := s.report ++ [⟨.reading, s.dTemp.toNat, s.dHum.toNat⟩],
        lastErr := .none, tPoll := s.inputs.now % 2 ^ s.cfg.tw, phase := PH_DRAIN_IN, dstate := D_IDLE }) ∧
    (s.dErr = .none → s.dHum.toNat ≤ s.cfg.humThresh → s.dTemp.toNat ≤ s.cfg.tempThresh →
      exec .loopRet s = .next { s with
        m1Duty := 0, m1En := false,
        report := s.report ++ [⟨.reading, s.dTemp.toNat, s.dHum.toNat⟩],
        lastErr := .none, tPoll := s.inputs.now % 2 ^ s.cfg.tw, phase := PH_DRAIN_IN, dstate := D_IDLE }) ∧
    (s.dErr ≠ .none →
      exec .loopRet s = .next { s with
        report := s.report ++ [⟨.sensorError, 0, 0⟩], lastErr := s.dErr,
        tPoll := s.inputs.now % 2 ^ s.cfg.tw, phase := PH_DRAIN_IN, dstate := D_IDLE })

/-- LOOP.DRIN (R188, R234). The count fits its register in every state of the block (`WidthsHeldByStep`). -/
def Obligations.LoopDrinResult : Prop :=
  decode (.seq 0b0100000#7) = .ok .loopDrin ∧
  ∀ s : State, s.inv < 2 ^ s.cfg.cw →
    (s.fIn = false → exec .loopDrin s = .next { s with phase := PH_DRAIN_OUT, dstate := D_IDLE }) ∧
    (s.fIn = true → s.inv = 2 ^ s.cfg.cw - 1 →
      exec .loopDrin s = .next { s with
        fIn := false, invOvf := true, report := s.report ++ [⟨.entered, s.inv, 0⟩],
        phase := PH_DRAIN_OUT, dstate := D_IDLE }) ∧
    (s.fIn = true → s.inv ≠ 2 ^ s.cfg.cw - 1 →
      exec .loopDrin s = .next { s with
        fIn := false, inv := s.inv + 1, report := s.report ++ [⟨.entered, s.inv + 1, 0⟩],
        phase := PH_DRAIN_OUT, dstate := D_IDLE })

/-- LOOP.DROUT (R190): saturating at 0, the record emitted at count 0 too. -/
def Obligations.LoopDroutResult : Prop :=
  decode (.seq 0b0110000#7) = .ok .loopDrout ∧
  ∀ s : State,
    (s.fOut = false → exec .loopDrout s = .next { s with phase := PH_DRAIN_MOTION, dstate := D_IDLE }) ∧
    (s.fOut = true → s.inv = 0 →
      exec .loopDrout s = .next { s with
        fOut := false, report := s.report ++ [⟨.removed, 0, 0⟩], phase := PH_DRAIN_MOTION, dstate := D_IDLE }) ∧
    (s.fOut = true → ∀ m, s.inv = m + 1 →
      exec .loopDrout s = .next { s with
        fOut := false, inv := m, report := s.report ++ [⟨.removed, m, 0⟩],
        phase := PH_DRAIN_MOTION, dstate := D_IDLE })

/-- LOOP.DRMOT (R192): the stamp whether the indicator was off or on, the record only from off to on. -/
def Obligations.LoopDrmotResult : Prop :=
  decode (.seq 0b1000000#7) = .ok .loopDrmot ∧
  ∀ s : State,
    (s.fMotion = false → exec .loopDrmot s = .next { s with phase := PH_COOLDOWN, dstate := D_IDLE }) ∧
    (s.fMotion = true → s.indOn = false →
      exec .loopDrmot s = .next { s with
        fMotion := false, indOn := true, tMotion := s.inputs.now % 2 ^ s.cfg.tw,
        report := s.report ++ [⟨.motionOn, 0, 0⟩], phase := PH_COOLDOWN, dstate := D_IDLE }) ∧
    (s.fMotion = true → s.indOn = true →
      exec .loopDrmot s = .next { s with
        fMotion := false, tMotion := s.inputs.now % 2 ^ s.cfg.tw, phase := PH_COOLDOWN, dstate := D_IDLE })

/-- LOOP.COOL (R194). -/
def Obligations.LoopCoolResult : Prop :=
  decode (.seq 0b1010000#7) = .ok .loopCool ∧
  ∀ s : State, exec .loopCool s = .next
    (if s.indOn = true ∧ (s.cfg.tCool : Int) ≤ s.since s.tMotion then
      { s with
        indOn := false, report := s.report ++ [⟨.indOff, 0, 0⟩], phase := PH_BUTTONS, dstate := D_IDLE }
    else { s with phase := PH_BUTTONS, dstate := D_IDLE })

/-- LOOP.BTN (R196, R222, R224): the eight rows of the table, start before stop. -/
def Obligations.LoopBtnResult : Prop :=
  decode (.seq 0b1100000#7) = .ok .loopBtn ∧
  ∀ s : State,
    (s.m2On = false → s.inputs.btnStart = true →
      exec .loopBtn s = .next { s with
        m2On := true, report := s.report ++ [⟨.m2On, 0, 0⟩], tIdle := s.inputs.now % 2 ^ s.cfg.tw,
        phase := PH_IDLE, dstate := D_IDLE }) ∧
    (s.m2On = false → s.inputs.btnStart = false →
      exec .loopBtn s = .next { s with
        tIdle := s.inputs.now % 2 ^ s.cfg.tw, phase := PH_IDLE, dstate := D_IDLE }) ∧
    (s.m2On = true → s.inputs.btnStop = true →
      exec .loopBtn s = .next { s with
        m2On := false, tIdle := s.inputs.now % 2 ^ s.cfg.tw, phase := PH_IDLE, dstate := D_IDLE }) ∧
    (s.m2On = true → s.inputs.btnStop = false →
      exec .loopBtn s = .next { s with
        tIdle := s.inputs.now % 2 ^ s.cfg.tw, phase := PH_IDLE, dstate := D_IDLE })

/-- LOOP.IDLE (R198, R266): ends on time alone, whatever the flags. -/
def Obligations.LoopIdleResult : Prop :=
  decode (.seq 0b1110000#7) = .ok .loopIdle ∧
  ∀ s : State, exec .loopIdle s = .next
    (if (s.cfg.tIdle : Int) ≤ s.since s.tIdle then { s with phase := PH_POLL, dstate := D_IDLE } else s)

/-- EVT.IN, EVT.OUT and EVT.MOT (R161, R162, R163): one flag to 1, nothing else. -/
def Obligations.EventStoreResults : Prop :=
  decode (.ev 0b000#3) = .ok .evtIn ∧ decode (.ev 0b010#3) = .ok .evtOut ∧ decode (.ev 0b101#3) = .ok .evtMot ∧
  ∀ s : State,
    exec .evtIn s = .next { s with fIn := true } ∧ exec .evtOut s = .next { s with fOut := true } ∧
    exec .evtMot s = .next { s with fMotion := true }

/-- EVT.IGN on its five words (R164, R101): no register changes. -/
def Obligations.IgnoredEventResults : Prop :=
  ∀ (w : EvWord) (i : Instr),
    w = 0b001#3 ∨ w = 0b011#3 ∨ w = 0b100#3 ∨ w = 0b110#3 ∨ w = 0b111#3 → decode (.ev w) = .ok i →
    (i = .evtIgnInRise ∨ i = .evtIgnOutRise ∨ i = .evtIgnMotFall ∨ i = .evtIgnOtherFall ∨
      i = .evtIgnOtherRise) ∧
    ∀ s : State, exec i s = .next s

/-! ## The functions the operations call -/

/-- R25: the time since a stamp is the true time while that is below `2^TW`, across a wrap of the clock. -/
def Obligations.ElapsedIsTrueTime : Prop :=
  ∀ (s : State) (t0 : Nat), t0 ≤ s.inputs.now → s.inputs.now - t0 < 2 ^ s.cfg.tw →
    s.elapsed (t0 % 2 ^ s.cfg.tw) = s.inputs.now - t0

/-- R91: forty samples shifted in one after the other spell the sum of `b_k * 2^(39-k)`, and byte `i` is bits
`8i` to `8i + 7`, most significant first (R65). -/
def Obligations.FrameAssembly : Prop :=
  ∀ bits : List Bool, bits.length = 40 →
    (bits.foldl shiftIn 0#40).toNat = bitsNat bits ∧
    ∀ i, i < 5 → (frameByte (bits.foldl shiftIn 0#40) i).toNat = bitsByte bits i

/-- R220, R236: Motor 1's command over every reading, for the printed thresholds. -/
def Obligations.Motor1Table : Prop :=
  ∀ temp hum : Byte,
    m1Command Config.nominal temp hum =
      if 60 < hum.toNat ∨ 30 < temp.toNat then ⟨100#7, true⟩ else ⟨0#7, false⟩

/-- R22, R43, R226: the level outputs as functions of the registers. -/
def Obligations.OutputsFollowRegisters : Prop :=
  ∀ s : State, s.outputs.sdaOe = s.sdaOe ∧ s.outputs.m1Duty = s.m1Duty ∧ s.outputs.m1En = s.m1En ∧
    s.outputs.ind = s.indOn ∧ s.outputs.m2En = s.m2On ∧
    (s.m2On = true → s.outputs.m2Duty = BitVec.ofNat 7 s.cfg.dutyM2On) ∧
    (s.m2On = false → s.outputs.m2Duty = 0)

/-! ## Reset -/

/-- R48, R280, R281: the values the spec gives at the release of reset at clock value `n`, on any instance. -/
def Obligations.ResetValues : Prop :=
  ∀ (c : Config) (n : Nat),
    (State.resetWith c n).phase = PH_POLL ∧ (State.resetWith c n).dstate = D_IDLE ∧
    (State.resetWith c n).sdaOe = false ∧ (State.resetWith c n).tPoll = n % 2 ^ c.tw ∧
    (State.resetWith c n).fIn = false ∧ (State.resetWith c n).fOut = false ∧
    (State.resetWith c n).fMotion = false ∧ (State.resetWith c n).inv = 0 ∧
    (State.resetWith c n).invOvf = false ∧ (State.resetWith c n).indOn = false ∧
    (State.resetWith c n).m1Duty = 0 ∧ (State.resetWith c n).m1En = false ∧
    (State.resetWith c n).m2On = false ∧ (State.resetWith c n).lastErr = .none ∧
    (State.resetWith c n).report = [] ∧ decodeSeq (State.resetWith c n).seq = .ok .loopPoll

/-- The invariant holds when reset is released, on every admissible instance (and so at `State.reset`, whose
instance is the nominal one, entry 4). -/
def Obligations.ResetIsGood : Prop :=
  (∀ (c : Config) (n : Nat), c.wf = true → (State.resetWith c n).good) ∧ State.reset.good

/-! ## Invariants -/

/-- R28: the sequencer word stays legal. -/
def Obligations.SeqLegalKeptByStep : Prop := ∀ s t : State, s.seqLegal → step s = .next t → t.seqLegal

/-- R34, R63: the line is driven exactly in `D_REQ`, before and after every step. -/
def Obligations.LineOwnershipKeptByStep : Prop := ∀ s t : State, s.lineOwned → step s = .next t → t.lineOwned

/-- Stamps and count stay below `2^TW` and `2^CW` (the model's form of the registers' widths, entry 5). -/
def Obligations.WidthsHeldByStep : Prop := ∀ s t : State, s.widthsHeld → step s = .next t → t.widthsHeld

/-- The whole invariant: legal word (R28), line (R34), widths, Motor 1's enable (R42), slots counted (R30,
R126). -/
def Obligations.GoodKeptByStep : Prop := ∀ s t : State, s.good → step s = .next t → t.good

/-- R97, R98, R246: no run from reset stops with a fault, whatever the instance, the clock at reset, the
script, and the free choices after it. -/
def Obligations.NoFaultFromReset : Prop :=
  ∀ (c : Config) (n0 : Nat) (script : List EnvStep) (d n : Nat) (f : Fault),
    Sys2Proof.core.run n { State.resetWith c n0 with script := script, envDrawn := d } ≠ .fault f

/-- R24, R44: the clock never goes back and the parameters never change. -/
def Obligations.ClockForwardParametersFixed : Prop :=
  ∀ s t : State, step s = .next t → s.inputs.now ≤ t.inputs.now ∧ t.cfg = s.cfg

/-- R40: the sticky fault stays set except by reset; it is set only by LOOP.DRIN at the top count. -/
def Obligations.OverflowIsSticky : Prop :=
  ∀ (i : Instr) (s t : State), exec i s = .next t →
    (s.invOvf = true → t.invOvf = true) ∧
    (s.invOvf = false → t.invOvf = true → i = .loopDrin ∧ s.fIn = true ∧ s.inv = 2 ^ s.cfg.cw - 1 ∧ t.inv = s.inv)

/-! ## Rules about the whole machine -/

/-- R47, the writers' column: a register that an operation changes is one it is listed to write. The line is
taken in states where it is owned as R34 says (kept by every step, `LineOwnershipKeptByStep`). -/
def Obligations.SingleWriters : Prop :=
  ∀ (i : Instr) (s t : State), exec i s = .next t →
    (t.frame ≠ s.frame → i = .loopPoll ∨ i = .decBitd) ∧
    (t.bitcnt ≠ s.bitcnt → i = .loopPoll ∨ i = .decBitd) ∧
    (t.tMark ≠ s.tMark → i ∈ [.loopPoll, .decReq, .decTurn, .decAckl, .decAckh, .decBith, .decBitd, .decBitl]) ∧
    (t.dErr ≠ s.dErr → i ∈ [.decTurn, .decAckl, .decAckh, .decBith, .decBitl, .decChk]) ∧
    (t.dHum ≠ s.dHum → i = .decChk) ∧ (t.dTemp ≠ s.dTemp → i = .decChk) ∧
    (s.lineOwned → decodeSeq s.seq = .ok i → t.sdaOe ≠ s.sdaOe → i = .loopPoll ∨ i = .decReq) ∧
    (t.tPoll ≠ s.tPoll → i = .loopRet) ∧ (t.tIdle ≠ s.tIdle → i = .loopBtn) ∧
    (t.lastErr ≠ s.lastErr → i = .loopRet) ∧
    (t.fIn ≠ s.fIn → i = .evtIn ∨ i = .loopDrin) ∧ (t.fOut ≠ s.fOut → i = .evtOut ∨ i = .loopDrout) ∧
    (t.fMotion ≠ s.fMotion → i = .evtMot ∨ i = .loopDrmot) ∧
    (t.inv ≠ s.inv → i = .loopDrin ∨ i = .loopDrout) ∧ (t.invOvf ≠ s.invOvf → i = .loopDrin) ∧
    (t.indOn ≠ s.indOn → i = .loopDrmot ∨ i = .loopCool) ∧ (t.tMotion ≠ s.tMotion → i = .loopDrmot) ∧
    (t.m1Duty ≠ s.m1Duty → i = .loopRet) ∧ (t.m1En ≠ s.m1En → i = .loopRet) ∧
    (t.m2On ≠ s.m2On → i = .loopBtn) ∧ (t.seq ≠ s.seq → i.agent = .main)

/-- R160, R256, R260: a CAPTURE operation answers a next state that differs from the one before in at most one
flag, which it set; `seq` and every other register stay, no record is emitted. -/
def Obligations.CaptureOnlySetsOneFlag : Prop :=
  ∀ (i : Instr) (s : State), i.agent = .capture →
    exec i s = .next s ∨ exec i s = .next { s with fIn := true } ∨ exec i s = .next { s with fOut := true } ∨
      exec i s = .next { s with fMotion := true }

/-- R38, R168: MAIN never sets a flag, and clears one only at its own drain. -/
def Obligations.MainOnlyClearsFlags : Prop :=
  ∀ (i : Instr) (s t : State), i.agent = .main → exec i s = .next t →
    (t.fIn = true → s.fIn = true) ∧ (t.fOut = true → s.fOut = true) ∧ (t.fMotion = true → s.fMotion = true) ∧
    (i ≠ .loopDrin → t.fIn = s.fIn) ∧ (i ≠ .loopDrout → t.fOut = s.fOut) ∧
    (i ≠ .loopDrmot → t.fMotion = s.fMotion) ∧
    (i = .loopDrin → t.fIn = false) ∧ (i = .loopDrout → t.fOut = false) ∧ (i = .loopDrmot → t.fMotion = false)

/-- R67, R165: two CAPTURE operations commute, and each is idempotent. -/
def Obligations.CaptureOperationsCommute : Prop :=
  ∀ (i j : Instr) (s : State), i.agent = .capture → j.agent = .capture →
    ∃ a b t, exec i s = .next a ∧ exec j s = .next b ∧ exec j a = .next t ∧ exec i b = .next t ∧
      exec i a = .next a

/-- R132: a CAPTURE operation and a decoder operation commute, so a CAPTURE step between two decoder steps
changes nothing the decoder sees. -/
def Obligations.CaptureAndDecoderCommute : Prop :=
  ∀ (i j : Instr) (s : State), i.agent = .capture →
    j ∈ [.decReq, .decTurn, .decAckl, .decAckh, .decBith, .decBitd, .decBitl, .decChk] →
    ∃ a b t, exec i s = .next a ∧ exec j s = .next b ∧ exec j a = .next t ∧ exec i b = .next t

/-- R73, R296: for each of the three flags, in every state, the flag already set included. The edge, then the drain:
the drain acts once and leaves 0. The drain, then the edge: the flag is left 1, and the drain acted exactly if the
flag was already set. So the edge is drained now or left pending, never neither. -/
def Obligations.EdgeNeverLostAtDrain : Prop :=
  ∀ (s : State) (f : EdgeFlag) (edge drain : Instr),
    (f, edge, drain) = (.transitIn, .evtIn, .loopDrin) ∨ (f, edge, drain) = (.transitOut, .evtOut, .loopDrout) ∨
      (f, edge, drain) = (.motion, .evtMot, .loopDrmot) →
    (∃ a b, exec edge s = .next a ∧ exec drain a = .next b ∧ b.flag f = false ∧ s.actedOnce b f) ∧
    (∃ a b, exec drain s = .next a ∧ exec edge a = .next b ∧ b.flag f = true ∧
      (s.flag f = true → s.actedOnce b f) ∧ (s.flag f = false → s.notActed b))

/-- R166: any number of CAPTURE operations between two drains, in any order, leave each flag set exactly when it
was set or one of them sets it, and change nothing else. -/
def Obligations.EdgesCoalesce : Prop :=
  ∀ (events : List Instr) (s : State), (∀ i ∈ events, i.agent = .capture) →
    events.foldlM (m := Except Unit)
      (fun u i => match exec i u with | .next t => .ok t | _ => .error ()) s =
    .ok { s with
      fIn := s.fIn || decide (Instr.evtIn ∈ events), fOut := s.fOut || decide (Instr.evtOut ∈ events),
      fMotion := s.fMotion || decide (Instr.evtMot ∈ events) }

/-- R23, R265: a step other than the release of reset keeps the stream and appends at most one record. -/
def Obligations.AtMostOneReportPerStep : Prop :=
  ∀ s t : State, step s = .next t → (∀ n, s.nextItem ≠ .reset n) →
    t.report = s.report ∨ ∃ r, t.report = s.report ++ [r]

/-- R181, R255: the fixed order of an iteration: after a MAIN operation run at its own word, `seq` is one of the
successors the rule lists, or unchanged where the rule lets the operation wait. -/
def Obligations.SuccessorsFollowTheOrder : Prop :=
  ∀ (i : Instr) (s t : State), decode (.seq s.seq) = .ok i → exec i s = .next t →
    ∃ j ∈ successors i, decode (.seq t.seq) = .ok j

/-- R129, R242: no wait outlives its bound: a MAIN step of a waiting state at or past the bound leaves the state,
whatever the level, with a timeout exactly when the awaited level is not there. -/
def Obligations.WaitsEndAtTheirBound : Prop :=
  ∀ (s : State) (i : Instr) (want : Bool),
    (i, want) = (.decAckl, true) ∨ (i, want) = (.decAckh, false) ∨ (i, want) = (.decBith, true) ∨
      (i, want) = (.decBitl, false) →
    decode (.seq s.seq) = .ok i → (s.cfg.tWait : Int) ≤ s.since s.tMark →
    ∃ t, exec i s = .next t ∧ t.dstate ≠ s.dstate ∧
      (s.inputs.sdaIn ≠ want → t.dErr = .timeout ∧ t.dstate = D_DONE ∧ t.sdaOe = false) ∧
      (s.inputs.sdaIn = want → t.dErr = s.dErr ∧ t.tMark = s.inputs.now % 2 ^ s.cfg.tw)

/-- R221, R243: Motor 1's command changes only where a good result is used (or reset is released): a failed
read leaves it, and every fault leaves the reading registers (R241). -/
def Obligations.FaultsFreezeMotor1 : Prop :=
  ∀ s t : State, step s = .next t → (∀ n, s.nextItem ≠ .reset n) →
    ((t.m1Duty ≠ s.m1Duty ∨ t.m1En ≠ s.m1En) →
      s.phase = PH_DECODE ∧ s.dstate = D_DONE ∧ s.dErr = .none ∧ t.lastErr = .none) ∧
    ((t.dHum ≠ s.dHum ∨ t.dTemp ≠ s.dTemp) → s.phase = PH_DECODE ∧ s.dstate = D_CHK ∧ t.dErr = .none)

/-- R290, R184: a read begins only where the poll timer has run out, and it begins with the line driven low. -/
def Obligations.ReadsOncePerPeriod : Prop :=
  ∀ s t : State, step s = .next t → ¬ s.inRead → t.inRead →
    s.phase = PH_POLL ∧ (t.cfg.tPoll : Int) ≤ t.since s.tPoll ∧ t.sdaOe = true ∧ t.dstate = D_REQ

/-- R194, R204: the one way from on to off, reset apart, is a LOOP.COOL step at or past the cooldown. -/
def Obligations.OnlyCooldownTurnsIndicatorOff : Prop :=
  ∀ s t : State, step s = .next t → (∀ n, s.nextItem ≠ .reset n) → s.indOn = true → t.indOn = false →
    s.phase = PH_COOLDOWN ∧ (t.cfg.tCool : Int) ≤ t.since s.tMotion ∧ t.report = s.report ++ [⟨.indOff, 0, 0⟩]

/-- R204: the indicator, on with its last motion stamped at `t0`, is on at every later state of a run without
reset whose clock is still below `t0 + T_COOL`, motion or not in between. -/
def Obligations.IndicatorStaysOn : Prop :=
  ∀ (s t : State) (t0 n : Nat),
    s.indOn = true → s.tMotion = t0 % 2 ^ s.cfg.tw → t0 ≤ s.inputs.now → s.cfg.tCool ≤ 2 ^ s.cfg.tw →
    Sys2Proof.core.run n s = .next t →
    (∀ k u m, k < n → Sys2Proof.core.run k s = .next u → u.nextItem ≠ .reset m) →
    t.inputs.now < t0 + s.cfg.tCool → t.indOn = true

/-- R203: drained one by one from count `c`, events lead to the fold of `+1` and `max(0, x-1)`; it is never below
`max(0, c + n - m)`, and equals it when no removal met a zero count and was followed by an entry. Out then in from
0 gives 1. -/
def Obligations.InventoryLaw : Prop :=
  (∀ (s : State) (events : List DrainedEvent),
    s.inv < 2 ^ s.cfg.cw → s.invOvf = false → (s.drainAll events).invOvf = false →
    (s.drainAll events).inv = foldEvents s.inv events) ∧
  (∀ (c : Nat) (events : List DrainedEvent),
    c + events.count .entered - events.count .removed ≤ foldEvents c events ∧
    (noLateEntry c events = true →
      foldEvents c events = c + events.count .entered - events.count .removed)) ∧
  foldEvents 0 [.removed, .entered] = 1

/-- R62, R20: the line level reaches only the six operations that sample it, and the buttons only LOOP.BTN: on
any other operation, another level gives the same next state but for the input port itself. -/
def Obligations.InputsReadOnlyWhereNamed : Prop :=
  ∀ (i : Instr) (s t : State) (sda bs bp : Bool), exec i s = .next t →
    (i ∉ [.decTurn, .decAckl, .decAckh, .decBith, .decBitd, .decBitl] →
      exec i { s with inputs := { s.inputs with sdaIn := sda } } =
        .next { t with inputs := { t.inputs with sdaIn := sda } }) ∧
    (i ≠ .loopBtn →
      exec i { s with inputs := { s.inputs with btnStart := bs, btnStop := bp } } =
        .next { t with inputs := { t.inputs with btnStart := bs, btnStop := bp } })

/-- R48: the registers it leaves unspecified are written before they are read. Two states that agree on all
that can still be read take every step alike, so what the model puts into the others (entry 6) is never seen. -/
def Obligations.StepReadsOnlyLiveRegisters : Prop :=
  ∀ s t : State, SameLive s t → SameLiveOutcome (step s) (step t)

/-- R48: from reset, whatever those eight registers hold, every run has the same reports, outputs, count and
stops. -/
def Obligations.UnspecifiedResetValuesUnseen : Prop :=
  ∀ (c : Config) (n0 : Nat) (script : List EnvStep) (d n : Nat)
    (frame : Frame) (bitcnt : BitVec 6) (tMark tIdle tMotion : Nat) (dErr : ErrCode) (dHum dTemp : Byte),
    SameLiveOutcome
      (Sys2Proof.core.run n { State.resetWith c n0 with script := script, envDrawn := d })
      (Sys2Proof.core.run n { State.resetWith c n0 with
        script := script, envDrawn := d, frame := frame, bitcnt := bitcnt, tMark := tMark, tIdle := tIdle,
        tMotion := tMotion, dErr := dErr, dHum := dHum, dTemp := dTemp })

/-! ## The decoder as a function -/

/-- R140: a read from its call to its end, over any script: `frame` spells the levels sampled, in order, and the
result is the one those levels have: `ERR_NONE` with bytes 0 and 2 where forty levels carry a good checksum,
`ERR_CHECKSUM` where forty do not, `ERR_NORESPONSE` only before any sample. -/
def Obligations.ReadResultIsTheSampledFrame : Prop :=
  ∀ (s t : State) (n : Nat), s.cfg.wf = true →
    s.phase = PH_DECODE → s.dstate = D_REQ → s.frame = 0 → s.bitcnt = 0 →
    Sys2Proof.core.run n s = .next t →
    (∀ k u, k ≤ n → Sys2Proof.core.run k s = .next u → u.inRead) →
    t.frame.toNat = bitsNat (samplesOf n s) ∧ t.bitcnt.toNat = (samplesOf n s).length ∧
    (t.dstate = D_DONE →
      (t.dErr = .none → (samplesOf n s).length = 40 ∧ bitsGood (samplesOf n s) ∧
        t.dHum.toNat = bitsByte (samplesOf n s) 0 ∧ t.dTemp.toNat = bitsByte (samplesOf n s) 2) ∧
      (t.dErr = .checksum → (samplesOf n s).length = 40 ∧ ¬ bitsGood (samplesOf n s)) ∧
      (t.dErr = .noResponse → samplesOf n s = []))

/-- R141: under the rule's conditions on the sensor's waveform and on the spacing of MAIN steps, the read takes
the forty bits sent: once the sensor has finished, the read is past its last slot, and it ends with the result
those bits have. CAPTURE steps may fall anywhere (R132). -/
def Obligations.WellTimedReadIsExact : Prop :=
  ∀ (s t : State) (w : Waveform) (bits : List Bool) (g n r : Nat), s.cfg.wf = true →
    s.phase = PH_DECODE → s.dstate = D_TURN → s.frame = 0 → s.bitcnt = 0 →
    s.inputs.now = r → s.tMark = r % 2 ^ s.cfg.tw →
    bits.length = 40 → w.wellTimed s.cfg r g → w.finish bits + g < r + 2 ^ s.cfg.tw →
    Sys2Proof.core.run n s = .next t →
    (∀ k u, k < n → Sys2Proof.core.run k s = .next u →
      u.inRead ∧ itemFollowsWave w bits g u.inputs.now u.nextItem = true) →
    (w.finish bits ≤ t.inputs.now → ¬ t.inRead ∨ t.dstate = D_CHK ∨ t.dstate = D_DONE) ∧
    (t.inRead → t.dstate = D_DONE →
      (bitsGood bits → t.dErr = .none ∧ t.dHum.toNat = bitsByte bits 0 ∧ t.dTemp.toNat = bitsByte bits 2) ∧
      (¬ bitsGood bits → t.dErr = .checksum))

/-- R142: a read called at `r` lasts at most `T_REQ + T_TURN + 82*T_WAIT + 40*T_SAMPLE + 126*G` when MAIN steps
are at most `G` apart: every state of it, and the one its last step leads to, is within that of the call. -/
def Obligations.ReadLengthBounded : Prop :=
  ∀ (s t : State) (g n r : Nat), s.cfg.wf = true →
    s.phase = PH_DECODE → s.dstate = D_REQ → s.frame = 0 → s.bitcnt = 0 →
    s.inputs.now = r → s.tMark = r % 2 ^ s.cfg.tw → readBound s.cfg g < 2 ^ s.cfg.tw →
    Sys2Proof.core.run n s = .next t →
    (∀ k u, k < n → Sys2Proof.core.run k s = .next u → u.inRead ∧
      (∀ m, u.nextItem ≠ .reset m) ∧ ∀ m, u.nextItem.time? = some m → m ≤ u.inputs.now + g) →
    t.inputs.now ≤ r + readBound s.cfg g
end

