-- ==== Sys2Proof/Laws/State.lean ====
section
/-! SUPPORT. What each named update of State leaves in each field, so that no later proof unfolds one. -/

namespace Sys2Proof.Machine

/-! `seq <- (P, D)` field by field (R26). -/

@[simp] theorem State.setSeq_cfg (s : State) (p : Phase) (d : DState) : (s.setSeq p d).cfg = s.cfg := rfl
@[simp] theorem State.setSeq_phase (s : State) (p : Phase) (d : DState) : (s.setSeq p d).phase = p := rfl
@[simp] theorem State.setSeq_dstate (s : State) (p : Phase) (d : DState) : (s.setSeq p d).dstate = d := rfl
@[simp] theorem State.setSeq_frame (s : State) (p : Phase) (d : DState) : (s.setSeq p d).frame = s.frame := rfl
@[simp] theorem State.setSeq_bitcnt (s : State) (p : Phase) (d : DState) : (s.setSeq p d).bitcnt = s.bitcnt := rfl
@[simp] theorem State.setSeq_tMark (s : State) (p : Phase) (d : DState) : (s.setSeq p d).tMark = s.tMark := rfl
@[simp] theorem State.setSeq_dErr (s : State) (p : Phase) (d : DState) : (s.setSeq p d).dErr = s.dErr := rfl
@[simp] theorem State.setSeq_dHum (s : State) (p : Phase) (d : DState) : (s.setSeq p d).dHum = s.dHum := rfl
@[simp] theorem State.setSeq_dTemp (s : State) (p : Phase) (d : DState) : (s.setSeq p d).dTemp = s.dTemp := rfl
@[simp] theorem State.setSeq_sdaOe (s : State) (p : Phase) (d : DState) : (s.setSeq p d).sdaOe = s.sdaOe := rfl
@[simp] theorem State.setSeq_tPoll (s : State) (p : Phase) (d : DState) : (s.setSeq p d).tPoll = s.tPoll := rfl
@[simp] theorem State.setSeq_tIdle (s : State) (p : Phase) (d : DState) : (s.setSeq p d).tIdle = s.tIdle := rfl
@[simp] theorem State.setSeq_lastErr (s : State) (p : Phase) (d : DState) : (s.setSeq p d).lastErr = s.lastErr := rfl
@[simp] theorem State.setSeq_fIn (s : State) (p : Phase) (d : DState) : (s.setSeq p d).fIn = s.fIn := rfl
@[simp] theorem State.setSeq_fOut (s : State) (p : Phase) (d : DState) : (s.setSeq p d).fOut = s.fOut := rfl
@[simp] theorem State.setSeq_fMotion (s : State) (p : Phase) (d : DState) : (s.setSeq p d).fMotion = s.fMotion := rfl
@[simp] theorem State.setSeq_inv (s : State) (p : Phase) (d : DState) : (s.setSeq p d).inv = s.inv := rfl
@[simp] theorem State.setSeq_invOvf (s : State) (p : Phase) (d : DState) : (s.setSeq p d).invOvf = s.invOvf := rfl
@[simp] theorem State.setSeq_indOn (s : State) (p : Phase) (d : DState) : (s.setSeq p d).indOn = s.indOn := rfl
@[simp] theorem State.setSeq_tMotion (s : State) (p : Phase) (d : DState) : (s.setSeq p d).tMotion = s.tMotion := rfl
@[simp] theorem State.setSeq_m1Duty (s : State) (p : Phase) (d : DState) : (s.setSeq p d).m1Duty = s.m1Duty := rfl
@[simp] theorem State.setSeq_m1En (s : State) (p : Phase) (d : DState) : (s.setSeq p d).m1En = s.m1En := rfl
@[simp] theorem State.setSeq_m2On (s : State) (p : Phase) (d : DState) : (s.setSeq p d).m2On = s.m2On := rfl
@[simp] theorem State.setSeq_report (s : State) (p : Phase) (d : DState) : (s.setSeq p d).report = s.report := rfl
@[simp] theorem State.setSeq_inputs (s : State) (p : Phase) (d : DState) : (s.setSeq p d).inputs = s.inputs := rfl
@[simp] theorem State.setSeq_script (s : State) (p : Phase) (d : DState) : (s.setSeq p d).script = s.script := rfl
@[simp] theorem State.setSeq_envDrawn (s : State) (p : Phase) (d : DState) : (s.setSeq p d).envDrawn = s.envDrawn := rfl

/-! `LineDrive(b)` field by field (R61). -/

@[simp] theorem State.lineDrive_cfg (s : State) (b : Bool) : (s.lineDrive b).cfg = s.cfg := rfl
@[simp] theorem State.lineDrive_phase (s : State) (b : Bool) : (s.lineDrive b).phase = s.phase := rfl
@[simp] theorem State.lineDrive_dstate (s : State) (b : Bool) : (s.lineDrive b).dstate = s.dstate := rfl
@[simp] theorem State.lineDrive_frame (s : State) (b : Bool) : (s.lineDrive b).frame = s.frame := rfl
@[simp] theorem State.lineDrive_bitcnt (s : State) (b : Bool) : (s.lineDrive b).bitcnt = s.bitcnt := rfl
@[simp] theorem State.lineDrive_tMark (s : State) (b : Bool) : (s.lineDrive b).tMark = s.tMark := rfl
@[simp] theorem State.lineDrive_dErr (s : State) (b : Bool) : (s.lineDrive b).dErr = s.dErr := rfl
@[simp] theorem State.lineDrive_dHum (s : State) (b : Bool) : (s.lineDrive b).dHum = s.dHum := rfl
@[simp] theorem State.lineDrive_dTemp (s : State) (b : Bool) : (s.lineDrive b).dTemp = s.dTemp := rfl
@[simp] theorem State.lineDrive_sdaOe (s : State) (b : Bool) : (s.lineDrive b).sdaOe = b := rfl
@[simp] theorem State.lineDrive_tPoll (s : State) (b : Bool) : (s.lineDrive b).tPoll = s.tPoll := rfl
@[simp] theorem State.lineDrive_tIdle (s : State) (b : Bool) : (s.lineDrive b).tIdle = s.tIdle := rfl
@[simp] theorem State.lineDrive_lastErr (s : State) (b : Bool) : (s.lineDrive b).lastErr = s.lastErr := rfl
@[simp] theorem State.lineDrive_fIn (s : State) (b : Bool) : (s.lineDrive b).fIn = s.fIn := rfl
@[simp] theorem State.lineDrive_fOut (s : State) (b : Bool) : (s.lineDrive b).fOut = s.fOut := rfl
@[simp] theorem State.lineDrive_fMotion (s : State) (b : Bool) : (s.lineDrive b).fMotion = s.fMotion := rfl
@[simp] theorem State.lineDrive_inv (s : State) (b : Bool) : (s.lineDrive b).inv = s.inv := rfl
@[simp] theorem State.lineDrive_invOvf (s : State) (b : Bool) : (s.lineDrive b).invOvf = s.invOvf := rfl
@[simp] theorem State.lineDrive_indOn (s : State) (b : Bool) : (s.lineDrive b).indOn = s.indOn := rfl
@[simp] theorem State.lineDrive_tMotion (s : State) (b : Bool) : (s.lineDrive b).tMotion = s.tMotion := rfl
@[simp] theorem State.lineDrive_m1Duty (s : State) (b : Bool) : (s.lineDrive b).m1Duty = s.m1Duty := rfl
@[simp] theorem State.lineDrive_m1En (s : State) (b : Bool) : (s.lineDrive b).m1En = s.m1En := rfl
@[simp] theorem State.lineDrive_m2On (s : State) (b : Bool) : (s.lineDrive b).m2On = s.m2On := rfl
@[simp] theorem State.lineDrive_report (s : State) (b : Bool) : (s.lineDrive b).report = s.report := rfl
@[simp] theorem State.lineDrive_inputs (s : State) (b : Bool) : (s.lineDrive b).inputs = s.inputs := rfl
@[simp] theorem State.lineDrive_script (s : State) (b : Bool) : (s.lineDrive b).script = s.script := rfl
@[simp] theorem State.lineDrive_envDrawn (s : State) (b : Bool) : (s.lineDrive b).envDrawn = s.envDrawn := rfl

/-! `emit CODE(a, b)` field by field (R23). -/

@[simp] theorem State.emit_cfg (s : State) (c : RepCode) (a b : Nat) : (s.emit c a b).cfg = s.cfg := rfl
@[simp] theorem State.emit_phase (s : State) (c : RepCode) (a b : Nat) : (s.emit c a b).phase = s.phase := rfl
@[simp] theorem State.emit_dstate (s : State) (c : RepCode) (a b : Nat) : (s.emit c a b).dstate = s.dstate := rfl
@[simp] theorem State.emit_frame (s : State) (c : RepCode) (a b : Nat) : (s.emit c a b).frame = s.frame := rfl
@[simp] theorem State.emit_bitcnt (s : State) (c : RepCode) (a b : Nat) : (s.emit c a b).bitcnt = s.bitcnt := rfl
@[simp] theorem State.emit_tMark (s : State) (c : RepCode) (a b : Nat) : (s.emit c a b).tMark = s.tMark := rfl
@[simp] theorem State.emit_dErr (s : State) (c : RepCode) (a b : Nat) : (s.emit c a b).dErr = s.dErr := rfl
@[simp] theorem State.emit_dHum (s : State) (c : RepCode) (a b : Nat) : (s.emit c a b).dHum = s.dHum := rfl
@[simp] theorem State.emit_dTemp (s : State) (c : RepCode) (a b : Nat) : (s.emit c a b).dTemp = s.dTemp := rfl
@[simp] theorem State.emit_sdaOe (s : State) (c : RepCode) (a b : Nat) : (s.emit c a b).sdaOe = s.sdaOe := rfl
@[simp] theorem State.emit_tPoll (s : State) (c : RepCode) (a b : Nat) : (s.emit c a b).tPoll = s.tPoll := rfl
@[simp] theorem State.emit_tIdle (s : State) (c : RepCode) (a b : Nat) : (s.emit c a b).tIdle = s.tIdle := rfl
@[simp] theorem State.emit_lastErr (s : State) (c : RepCode) (a b : Nat) : (s.emit c a b).lastErr = s.lastErr := rfl
@[simp] theorem State.emit_fIn (s : State) (c : RepCode) (a b : Nat) : (s.emit c a b).fIn = s.fIn := rfl
@[simp] theorem State.emit_fOut (s : State) (c : RepCode) (a b : Nat) : (s.emit c a b).fOut = s.fOut := rfl
@[simp] theorem State.emit_fMotion (s : State) (c : RepCode) (a b : Nat) : (s.emit c a b).fMotion = s.fMotion := rfl
@[simp] theorem State.emit_inv (s : State) (c : RepCode) (a b : Nat) : (s.emit c a b).inv = s.inv := rfl
@[simp] theorem State.emit_invOvf (s : State) (c : RepCode) (a b : Nat) : (s.emit c a b).invOvf = s.invOvf := rfl
@[simp] theorem State.emit_indOn (s : State) (c : RepCode) (a b : Nat) : (s.emit c a b).indOn = s.indOn := rfl
@[simp] theorem State.emit_tMotion (s : State) (c : RepCode) (a b : Nat) : (s.emit c a b).tMotion = s.tMotion := rfl
@[simp] theorem State.emit_m1Duty (s : State) (c : RepCode) (a b : Nat) : (s.emit c a b).m1Duty = s.m1Duty := rfl
@[simp] theorem State.emit_m1En (s : State) (c : RepCode) (a b : Nat) : (s.emit c a b).m1En = s.m1En := rfl
@[simp] theorem State.emit_m2On (s : State) (c : RepCode) (a b : Nat) : (s.emit c a b).m2On = s.m2On := rfl
@[simp] theorem State.emit_report (s : State) (c : RepCode) (a b : Nat) : (s.emit c a b).report = s.report ++ [⟨c, a, b⟩] := rfl
@[simp] theorem State.emit_inputs (s : State) (c : RepCode) (a b : Nat) : (s.emit c a b).inputs = s.inputs := rfl
@[simp] theorem State.emit_script (s : State) (c : RepCode) (a b : Nat) : (s.emit c a b).script = s.script := rfl
@[simp] theorem State.emit_envDrawn (s : State) (c : RepCode) (a b : Nat) : (s.emit c a b).envDrawn = s.envDrawn := rfl

/-! A decoder state entered, field by field (R31). -/

@[simp] theorem State.enterDState_cfg (s : State) (d : DState) : (s.enterDState d).cfg = s.cfg := rfl
@[simp] theorem State.enterDState_phase (s : State) (d : DState) : (s.enterDState d).phase = s.phase := rfl
@[simp] theorem State.enterDState_dstate (s : State) (d : DState) : (s.enterDState d).dstate = d := rfl
@[simp] theorem State.enterDState_frame (s : State) (d : DState) : (s.enterDState d).frame = s.frame := rfl
@[simp] theorem State.enterDState_bitcnt (s : State) (d : DState) : (s.enterDState d).bitcnt = s.bitcnt := rfl
@[simp] theorem State.enterDState_tMark (s : State) (d : DState) : (s.enterDState d).tMark = s.nowStamp := rfl
@[simp] theorem State.enterDState_dErr (s : State) (d : DState) : (s.enterDState d).dErr = s.dErr := rfl
@[simp] theorem State.enterDState_dHum (s : State) (d : DState) : (s.enterDState d).dHum = s.dHum := rfl
@[simp] theorem State.enterDState_dTemp (s : State) (d : DState) : (s.enterDState d).dTemp = s.dTemp := rfl
@[simp] theorem State.enterDState_sdaOe (s : State) (d : DState) : (s.enterDState d).sdaOe = s.sdaOe := rfl
@[simp] theorem State.enterDState_tPoll (s : State) (d : DState) : (s.enterDState d).tPoll = s.tPoll := rfl
@[simp] theorem State.enterDState_tIdle (s : State) (d : DState) : (s.enterDState d).tIdle = s.tIdle := rfl
@[simp] theorem State.enterDState_lastErr (s : State) (d : DState) : (s.enterDState d).lastErr = s.lastErr := rfl
@[simp] theorem State.enterDState_fIn (s : State) (d : DState) : (s.enterDState d).fIn = s.fIn := rfl
@[simp] theorem State.enterDState_fOut (s : State) (d : DState) : (s.enterDState d).fOut = s.fOut := rfl
@[simp] theorem State.enterDState_fMotion (s : State) (d : DState) : (s.enterDState d).fMotion = s.fMotion := rfl
@[simp] theorem State.enterDState_inv (s : State) (d : DState) : (s.enterDState d).inv = s.inv := rfl
@[simp] theorem State.enterDState_invOvf (s : State) (d : DState) : (s.enterDState d).invOvf = s.invOvf := rfl
@[simp] theorem State.enterDState_indOn (s : State) (d : DState) : (s.enterDState d).indOn = s.indOn := rfl
@[simp] theorem State.enterDState_tMotion (s : State) (d : DState) : (s.enterDState d).tMotion = s.tMotion := rfl
@[simp] theorem State.enterDState_m1Duty (s : State) (d : DState) : (s.enterDState d).m1Duty = s.m1Duty := rfl
@[simp] theorem State.enterDState_m1En (s : State) (d : DState) : (s.enterDState d).m1En = s.m1En := rfl
@[simp] theorem State.enterDState_m2On (s : State) (d : DState) : (s.enterDState d).m2On = s.m2On := rfl
@[simp] theorem State.enterDState_report (s : State) (d : DState) : (s.enterDState d).report = s.report := rfl
@[simp] theorem State.enterDState_inputs (s : State) (d : DState) : (s.enterDState d).inputs = s.inputs := rfl
@[simp] theorem State.enterDState_script (s : State) (d : DState) : (s.enterDState d).script = s.script := rfl
@[simp] theorem State.enterDState_envDrawn (s : State) (d : DState) : (s.enterDState d).envDrawn = s.envDrawn := rfl

/-! `raise DecodeFault(code)` field by field (R241). -/

@[simp] theorem State.raiseDecodeFault_cfg (s : State) (e : ErrCode) : (s.raiseDecodeFault e).cfg = s.cfg := rfl
@[simp] theorem State.raiseDecodeFault_phase (s : State) (e : ErrCode) : (s.raiseDecodeFault e).phase = s.phase := rfl
@[simp] theorem State.raiseDecodeFault_dstate (s : State) (e : ErrCode) : (s.raiseDecodeFault e).dstate = D_DONE := rfl
@[simp] theorem State.raiseDecodeFault_frame (s : State) (e : ErrCode) : (s.raiseDecodeFault e).frame = s.frame := rfl
@[simp] theorem State.raiseDecodeFault_bitcnt (s : State) (e : ErrCode) : (s.raiseDecodeFault e).bitcnt = s.bitcnt := rfl
@[simp] theorem State.raiseDecodeFault_tMark (s : State) (e : ErrCode) : (s.raiseDecodeFault e).tMark = s.tMark := rfl
@[simp] theorem State.raiseDecodeFault_dErr (s : State) (e : ErrCode) : (s.raiseDecodeFault e).dErr = e := rfl
@[simp] theorem State.raiseDecodeFault_dHum (s : State) (e : ErrCode) : (s.raiseDecodeFault e).dHum = s.dHum := rfl
@[simp] theorem State.raiseDecodeFault_dTemp (s : State) (e : ErrCode) : (s.raiseDecodeFault e).dTemp = s.dTemp := rfl
@[simp] theorem State.raiseDecodeFault_sdaOe (s : State) (e : ErrCode) : (s.raiseDecodeFault e).sdaOe = false := rfl
@[simp] theorem State.raiseDecodeFault_tPoll (s : State) (e : ErrCode) : (s.raiseDecodeFault e).tPoll = s.tPoll := rfl
@[simp] theorem State.raiseDecodeFault_tIdle (s : State) (e : ErrCode) : (s.raiseDecodeFault e).tIdle = s.tIdle := rfl
@[simp] theorem State.raiseDecodeFault_lastErr (s : State) (e : ErrCode) : (s.raiseDecodeFault e).lastErr = s.lastErr := rfl
@[simp] theorem State.raiseDecodeFault_fIn (s : State) (e : ErrCode) : (s.raiseDecodeFault e).fIn = s.fIn := rfl
@[simp] theorem State.raiseDecodeFault_fOut (s : State) (e : ErrCode) : (s.raiseDecodeFault e).fOut = s.fOut := rfl
@[simp] theorem State.raiseDecodeFault_fMotion (s : State) (e : ErrCode) : (s.raiseDecodeFault e).fMotion = s.fMotion := rfl
@[simp] theorem State.raiseDecodeFault_inv (s : State) (e : ErrCode) : (s.raiseDecodeFault e).inv = s.inv := rfl
@[simp] theorem State.raiseDecodeFault_invOvf (s : State) (e : ErrCode) : (s.raiseDecodeFault e).invOvf = s.invOvf := rfl
@[simp] theorem State.raiseDecodeFault_indOn (s : State) (e : ErrCode) : (s.raiseDecodeFault e).indOn = s.indOn := rfl
@[simp] theorem State.raiseDecodeFault_tMotion (s : State) (e : ErrCode) : (s.raiseDecodeFault e).tMotion = s.tMotion := rfl
@[simp] theorem State.raiseDecodeFault_m1Duty (s : State) (e : ErrCode) : (s.raiseDecodeFault e).m1Duty = s.m1Duty := rfl
@[simp] theorem State.raiseDecodeFault_m1En (s : State) (e : ErrCode) : (s.raiseDecodeFault e).m1En = s.m1En := rfl
@[simp] theorem State.raiseDecodeFault_m2On (s : State) (e : ErrCode) : (s.raiseDecodeFault e).m2On = s.m2On := rfl
@[simp] theorem State.raiseDecodeFault_report (s : State) (e : ErrCode) : (s.raiseDecodeFault e).report = s.report := rfl
@[simp] theorem State.raiseDecodeFault_inputs (s : State) (e : ErrCode) : (s.raiseDecodeFault e).inputs = s.inputs := rfl
@[simp] theorem State.raiseDecodeFault_script (s : State) (e : ErrCode) : (s.raiseDecodeFault e).script = s.script := rfl
@[simp] theorem State.raiseDecodeFault_envDrawn (s : State) (e : ErrCode) : (s.raiseDecodeFault e).envDrawn = s.envDrawn := rfl

/-! The return from the decoder, field by field (R186). -/

@[simp] theorem State.returnFromDecoder_cfg (s : State) : (s.returnFromDecoder).cfg = s.cfg := rfl
@[simp] theorem State.returnFromDecoder_phase (s : State) : (s.returnFromDecoder).phase = PH_DRAIN_IN := rfl
@[simp] theorem State.returnFromDecoder_dstate (s : State) : (s.returnFromDecoder).dstate = D_IDLE := rfl
@[simp] theorem State.returnFromDecoder_frame (s : State) : (s.returnFromDecoder).frame = s.frame := rfl
@[simp] theorem State.returnFromDecoder_bitcnt (s : State) : (s.returnFromDecoder).bitcnt = s.bitcnt := rfl
@[simp] theorem State.returnFromDecoder_tMark (s : State) : (s.returnFromDecoder).tMark = s.tMark := rfl
@[simp] theorem State.returnFromDecoder_dErr (s : State) : (s.returnFromDecoder).dErr = s.dErr := rfl
@[simp] theorem State.returnFromDecoder_dHum (s : State) : (s.returnFromDecoder).dHum = s.dHum := rfl
@[simp] theorem State.returnFromDecoder_dTemp (s : State) : (s.returnFromDecoder).dTemp = s.dTemp := rfl
@[simp] theorem State.returnFromDecoder_sdaOe (s : State) : (s.returnFromDecoder).sdaOe = s.sdaOe := rfl
@[simp] theorem State.returnFromDecoder_tPoll (s : State) : (s.returnFromDecoder).tPoll = s.nowStamp := rfl
@[simp] theorem State.returnFromDecoder_tIdle (s : State) : (s.returnFromDecoder).tIdle = s.tIdle := rfl
@[simp] theorem State.returnFromDecoder_lastErr (s : State) : (s.returnFromDecoder).lastErr = s.dErr := rfl
@[simp] theorem State.returnFromDecoder_fIn (s : State) : (s.returnFromDecoder).fIn = s.fIn := rfl
@[simp] theorem State.returnFromDecoder_fOut (s : State) : (s.returnFromDecoder).fOut = s.fOut := rfl
@[simp] theorem State.returnFromDecoder_fMotion (s : State) : (s.returnFromDecoder).fMotion = s.fMotion := rfl
@[simp] theorem State.returnFromDecoder_inv (s : State) : (s.returnFromDecoder).inv = s.inv := rfl
@[simp] theorem State.returnFromDecoder_invOvf (s : State) : (s.returnFromDecoder).invOvf = s.invOvf := rfl
@[simp] theorem State.returnFromDecoder_indOn (s : State) : (s.returnFromDecoder).indOn = s.indOn := rfl
@[simp] theorem State.returnFromDecoder_tMotion (s : State) : (s.returnFromDecoder).tMotion = s.tMotion := rfl
@[simp] theorem State.returnFromDecoder_m1Duty (s : State) : (s.returnFromDecoder).m1Duty = s.m1Duty := rfl
@[simp] theorem State.returnFromDecoder_m1En (s : State) : (s.returnFromDecoder).m1En = s.m1En := rfl
@[simp] theorem State.returnFromDecoder_m2On (s : State) : (s.returnFromDecoder).m2On = s.m2On := rfl
@[simp] theorem State.returnFromDecoder_report (s : State) : (s.returnFromDecoder).report = s.report := rfl
@[simp] theorem State.returnFromDecoder_inputs (s : State) : (s.returnFromDecoder).inputs = s.inputs := rfl
@[simp] theorem State.returnFromDecoder_script (s : State) : (s.returnFromDecoder).script = s.script := rfl
@[simp] theorem State.returnFromDecoder_envDrawn (s : State) : (s.returnFromDecoder).envDrawn = s.envDrawn := rfl

/-! The call of the decoder, field by field (R184). -/

@[simp] theorem State.callDecoder_cfg (s : State) : (s.callDecoder).cfg = s.cfg := rfl
@[simp] theorem State.callDecoder_phase (s : State) : (s.callDecoder).phase = PH_DECODE := rfl
@[simp] theorem State.callDecoder_dstate (s : State) : (s.callDecoder).dstate = D_REQ := rfl
@[simp] theorem State.callDecoder_frame (s : State) : (s.callDecoder).frame = 0#40 := rfl
@[simp] theorem State.callDecoder_bitcnt (s : State) : (s.callDecoder).bitcnt = 0#6 := rfl
@[simp] theorem State.callDecoder_tMark (s : State) : (s.callDecoder).tMark = s.nowStamp := rfl
@[simp] theorem State.callDecoder_dErr (s : State) : (s.callDecoder).dErr = s.dErr := rfl
@[simp] theorem State.callDecoder_dHum (s : State) : (s.callDecoder).dHum = s.dHum := rfl
@[simp] theorem State.callDecoder_dTemp (s : State) : (s.callDecoder).dTemp = s.dTemp := rfl
@[simp] theorem State.callDecoder_sdaOe (s : State) : (s.callDecoder).sdaOe = true := rfl
@[simp] theorem State.callDecoder_tPoll (s : State) : (s.callDecoder).tPoll = s.tPoll := rfl
@[simp] theorem State.callDecoder_tIdle (s : State) : (s.callDecoder).tIdle = s.tIdle := rfl
@[simp] theorem State.callDecoder_lastErr (s : State) : (s.callDecoder).lastErr = s.lastErr := rfl
@[simp] theorem State.callDecoder_fIn (s : State) : (s.callDecoder).fIn = s.fIn := rfl
@[simp] theorem State.callDecoder_fOut (s : State) : (s.callDecoder).fOut = s.fOut := rfl
@[simp] theorem State.callDecoder_fMotion (s : State) : (s.callDecoder).fMotion = s.fMotion := rfl
@[simp] theorem State.callDecoder_inv (s : State) : (s.callDecoder).inv = s.inv := rfl
@[simp] theorem State.callDecoder_invOvf (s : State) : (s.callDecoder).invOvf = s.invOvf := rfl
@[simp] theorem State.callDecoder_indOn (s : State) : (s.callDecoder).indOn = s.indOn := rfl
@[simp] theorem State.callDecoder_tMotion (s : State) : (s.callDecoder).tMotion = s.tMotion := rfl
@[simp] theorem State.callDecoder_m1Duty (s : State) : (s.callDecoder).m1Duty = s.m1Duty := rfl
@[simp] theorem State.callDecoder_m1En (s : State) : (s.callDecoder).m1En = s.m1En := rfl
@[simp] theorem State.callDecoder_m2On (s : State) : (s.callDecoder).m2On = s.m2On := rfl
@[simp] theorem State.callDecoder_report (s : State) : (s.callDecoder).report = s.report := rfl
@[simp] theorem State.callDecoder_inputs (s : State) : (s.callDecoder).inputs = s.inputs := rfl
@[simp] theorem State.callDecoder_script (s : State) : (s.callDecoder).script = s.script := rfl
@[simp] theorem State.callDecoder_envDrawn (s : State) : (s.callDecoder).envDrawn = s.envDrawn := rfl

/-! A sample taken, field by field (R126). -/

@[simp] theorem State.takeSample_cfg (s : State) (b : Bool) : (s.takeSample b).cfg = s.cfg := rfl
@[simp] theorem State.takeSample_phase (s : State) (b : Bool) : (s.takeSample b).phase = s.phase := rfl
@[simp] theorem State.takeSample_dstate (s : State) (b : Bool) : (s.takeSample b).dstate = s.dstate := rfl
@[simp] theorem State.takeSample_frame (s : State) (b : Bool) : (s.takeSample b).frame = shiftIn s.frame b := rfl
@[simp] theorem State.takeSample_bitcnt (s : State) (b : Bool) : (s.takeSample b).bitcnt = s.bitcnt + 1#6 := rfl
@[simp] theorem State.takeSample_tMark (s : State) (b : Bool) : (s.takeSample b).tMark = s.tMark := rfl
@[simp] theorem State.takeSample_dErr (s : State) (b : Bool) : (s.takeSample b).dErr = s.dErr := rfl
@[simp] theorem State.takeSample_dHum (s : State) (b : Bool) : (s.takeSample b).dHum = s.dHum := rfl
@[simp] theorem State.takeSample_dTemp (s : State) (b : Bool) : (s.takeSample b).dTemp = s.dTemp := rfl
@[simp] theorem State.takeSample_sdaOe (s : State) (b : Bool) : (s.takeSample b).sdaOe = s.sdaOe := rfl
@[simp] theorem State.takeSample_tPoll (s : State) (b : Bool) : (s.takeSample b).tPoll = s.tPoll := rfl
@[simp] theorem State.takeSample_tIdle (s : State) (b : Bool) : (s.takeSample b).tIdle = s.tIdle := rfl
@[simp] theorem State.takeSample_lastErr (s : State) (b : Bool) : (s.takeSample b).lastErr = s.lastErr := rfl
@[simp] theorem State.takeSample_fIn (s : State) (b : Bool) : (s.takeSample b).fIn = s.fIn := rfl
@[simp] theorem State.takeSample_fOut (s : State) (b : Bool) : (s.takeSample b).fOut = s.fOut := rfl
@[simp] theorem State.takeSample_fMotion (s : State) (b : Bool) : (s.takeSample b).fMotion = s.fMotion := rfl
@[simp] theorem State.takeSample_inv (s : State) (b : Bool) : (s.takeSample b).inv = s.inv := rfl
@[simp] theorem State.takeSample_invOvf (s : State) (b : Bool) : (s.takeSample b).invOvf = s.invOvf := rfl
@[simp] theorem State.takeSample_indOn (s : State) (b : Bool) : (s.takeSample b).indOn = s.indOn := rfl
@[simp] theorem State.takeSample_tMotion (s : State) (b : Bool) : (s.takeSample b).tMotion = s.tMotion := rfl
@[simp] theorem State.takeSample_m1Duty (s : State) (b : Bool) : (s.takeSample b).m1Duty = s.m1Duty := rfl
@[simp] theorem State.takeSample_m1En (s : State) (b : Bool) : (s.takeSample b).m1En = s.m1En := rfl
@[simp] theorem State.takeSample_m2On (s : State) (b : Bool) : (s.takeSample b).m2On = s.m2On := rfl
@[simp] theorem State.takeSample_report (s : State) (b : Bool) : (s.takeSample b).report = s.report := rfl
@[simp] theorem State.takeSample_inputs (s : State) (b : Bool) : (s.takeSample b).inputs = s.inputs := rfl
@[simp] theorem State.takeSample_script (s : State) (b : Bool) : (s.takeSample b).script = s.script := rfl
@[simp] theorem State.takeSample_envDrawn (s : State) (b : Bool) : (s.takeSample b).envDrawn = s.envDrawn := rfl

/-! Motor 1's command, field by field (R42). -/

@[simp] theorem State.putMotor1_cfg (s : State) (m : MotorCommand) : (s.putMotor1 m).cfg = s.cfg := rfl
@[simp] theorem State.putMotor1_phase (s : State) (m : MotorCommand) : (s.putMotor1 m).phase = s.phase := rfl
@[simp] theorem State.putMotor1_dstate (s : State) (m : MotorCommand) : (s.putMotor1 m).dstate = s.dstate := rfl
@[simp] theorem State.putMotor1_frame (s : State) (m : MotorCommand) : (s.putMotor1 m).frame = s.frame := rfl
@[simp] theorem State.putMotor1_bitcnt (s : State) (m : MotorCommand) : (s.putMotor1 m).bitcnt = s.bitcnt := rfl
@[simp] theorem State.putMotor1_tMark (s : State) (m : MotorCommand) : (s.putMotor1 m).tMark = s.tMark := rfl
@[simp] theorem State.putMotor1_dErr (s : State) (m : MotorCommand) : (s.putMotor1 m).dErr = s.dErr := rfl
@[simp] theorem State.putMotor1_dHum (s : State) (m : MotorCommand) : (s.putMotor1 m).dHum = s.dHum := rfl
@[simp] theorem State.putMotor1_dTemp (s : State) (m : MotorCommand) : (s.putMotor1 m).dTemp = s.dTemp := rfl
@[simp] theorem State.putMotor1_sdaOe (s : State) (m : MotorCommand) : (s.putMotor1 m).sdaOe = s.sdaOe := rfl
@[simp] theorem State.putMotor1_tPoll (s : State) (m : MotorCommand) : (s.putMotor1 m).tPoll = s.tPoll := rfl
@[simp] theorem State.putMotor1_tIdle (s : State) (m : MotorCommand) : (s.putMotor1 m).tIdle = s.tIdle := rfl
@[simp] theorem State.putMotor1_lastErr (s : State) (m : MotorCommand) : (s.putMotor1 m).lastErr = s.lastErr := rfl
@[simp] theorem State.putMotor1_fIn (s : State) (m : MotorCommand) : (s.putMotor1 m).fIn = s.fIn := rfl
@[simp] theorem State.putMotor1_fOut (s : State) (m : MotorCommand) : (s.putMotor1 m).fOut = s.fOut := rfl
@[simp] theorem State.putMotor1_fMotion (s : State) (m : MotorCommand) : (s.putMotor1 m).fMotion = s.fMotion := rfl
@[simp] theorem State.putMotor1_inv (s : State) (m : MotorCommand) : (s.putMotor1 m).inv = s.inv := rfl
@[simp] theorem State.putMotor1_invOvf (s : State) (m : MotorCommand) : (s.putMotor1 m).invOvf = s.invOvf := rfl
@[simp] theorem State.putMotor1_indOn (s : State) (m : MotorCommand) : (s.putMotor1 m).indOn = s.indOn := rfl
@[simp] theorem State.putMotor1_tMotion (s : State) (m : MotorCommand) : (s.putMotor1 m).tMotion = s.tMotion := rfl
@[simp] theorem State.putMotor1_m1Duty (s : State) (m : MotorCommand) : (s.putMotor1 m).m1Duty = m.duty := rfl
@[simp] theorem State.putMotor1_m1En (s : State) (m : MotorCommand) : (s.putMotor1 m).m1En = m.en := rfl
@[simp] theorem State.putMotor1_m2On (s : State) (m : MotorCommand) : (s.putMotor1 m).m2On = s.m2On := rfl
@[simp] theorem State.putMotor1_report (s : State) (m : MotorCommand) : (s.putMotor1 m).report = s.report := rfl
@[simp] theorem State.putMotor1_inputs (s : State) (m : MotorCommand) : (s.putMotor1 m).inputs = s.inputs := rfl
@[simp] theorem State.putMotor1_script (s : State) (m : MotorCommand) : (s.putMotor1 m).script = s.script := rfl
@[simp] theorem State.putMotor1_envDrawn (s : State) (m : MotorCommand) : (s.putMotor1 m).envDrawn = s.envDrawn := rfl

/-! The decrement, field by field (R234). -/

@[simp] theorem State.invDecrement_cfg (s : State) : (s.invDecrement).cfg = s.cfg := rfl
@[simp] theorem State.invDecrement_phase (s : State) : (s.invDecrement).phase = s.phase := rfl
@[simp] theorem State.invDecrement_dstate (s : State) : (s.invDecrement).dstate = s.dstate := rfl
@[simp] theorem State.invDecrement_frame (s : State) : (s.invDecrement).frame = s.frame := rfl
@[simp] theorem State.invDecrement_bitcnt (s : State) : (s.invDecrement).bitcnt = s.bitcnt := rfl
@[simp] theorem State.invDecrement_tMark (s : State) : (s.invDecrement).tMark = s.tMark := rfl
@[simp] theorem State.invDecrement_dErr (s : State) : (s.invDecrement).dErr = s.dErr := rfl
@[simp] theorem State.invDecrement_dHum (s : State) : (s.invDecrement).dHum = s.dHum := rfl
@[simp] theorem State.invDecrement_dTemp (s : State) : (s.invDecrement).dTemp = s.dTemp := rfl
@[simp] theorem State.invDecrement_sdaOe (s : State) : (s.invDecrement).sdaOe = s.sdaOe := rfl
@[simp] theorem State.invDecrement_tPoll (s : State) : (s.invDecrement).tPoll = s.tPoll := rfl
@[simp] theorem State.invDecrement_tIdle (s : State) : (s.invDecrement).tIdle = s.tIdle := rfl
@[simp] theorem State.invDecrement_lastErr (s : State) : (s.invDecrement).lastErr = s.lastErr := rfl
@[simp] theorem State.invDecrement_fIn (s : State) : (s.invDecrement).fIn = s.fIn := rfl
@[simp] theorem State.invDecrement_fOut (s : State) : (s.invDecrement).fOut = s.fOut := rfl
@[simp] theorem State.invDecrement_fMotion (s : State) : (s.invDecrement).fMotion = s.fMotion := rfl
@[simp] theorem State.invDecrement_inv (s : State) : (s.invDecrement).inv = s.inv - 1 := rfl
@[simp] theorem State.invDecrement_invOvf (s : State) : (s.invDecrement).invOvf = s.invOvf := rfl
@[simp] theorem State.invDecrement_indOn (s : State) : (s.invDecrement).indOn = s.indOn := rfl
@[simp] theorem State.invDecrement_tMotion (s : State) : (s.invDecrement).tMotion = s.tMotion := rfl
@[simp] theorem State.invDecrement_m1Duty (s : State) : (s.invDecrement).m1Duty = s.m1Duty := rfl
@[simp] theorem State.invDecrement_m1En (s : State) : (s.invDecrement).m1En = s.m1En := rfl
@[simp] theorem State.invDecrement_m2On (s : State) : (s.invDecrement).m2On = s.m2On := rfl
@[simp] theorem State.invDecrement_report (s : State) : (s.invDecrement).report = s.report := rfl
@[simp] theorem State.invDecrement_inputs (s : State) : (s.invDecrement).inputs = s.inputs := rfl
@[simp] theorem State.invDecrement_script (s : State) : (s.invDecrement).script = s.script := rfl
@[simp] theorem State.invDecrement_envDrawn (s : State) : (s.invDecrement).envDrawn = s.envDrawn := rfl

/-! A flag written, field by field (R38). -/

@[simp] theorem State.putFlag_cfg (s : State) (f : EdgeFlag) (b : Bool) : (s.putFlag f b).cfg = s.cfg := by cases f <;> rfl
@[simp] theorem State.putFlag_phase (s : State) (f : EdgeFlag) (b : Bool) : (s.putFlag f b).phase = s.phase := by cases f <;> rfl
@[simp] theorem State.putFlag_dstate (s : State) (f : EdgeFlag) (b : Bool) : (s.putFlag f b).dstate = s.dstate := by cases f <;> rfl
@[simp] theorem State.putFlag_frame (s : State) (f : EdgeFlag) (b : Bool) : (s.putFlag f b).frame = s.frame := by cases f <;> rfl
@[simp] theorem State.putFlag_bitcnt (s : State) (f : EdgeFlag) (b : Bool) : (s.putFlag f b).bitcnt = s.bitcnt := by cases f <;> rfl
@[simp] theorem State.putFlag_tMark (s : State) (f : EdgeFlag) (b : Bool) : (s.putFlag f b).tMark = s.tMark := by cases f <;> rfl
@[simp] theorem State.putFlag_dErr (s : State) (f : EdgeFlag) (b : Bool) : (s.putFlag f b).dErr = s.dErr := by cases f <;> rfl
@[simp] theorem State.putFlag_dHum (s : State) (f : EdgeFlag) (b : Bool) : (s.putFlag f b).dHum = s.dHum := by cases f <;> rfl
@[simp] theorem State.putFlag_dTemp (s : State) (f : EdgeFlag) (b : Bool) : (s.putFlag f b).dTemp = s.dTemp := by cases f <;> rfl
@[simp] theorem State.putFlag_sdaOe (s : State) (f : EdgeFlag) (b : Bool) : (s.putFlag f b).sdaOe = s.sdaOe := by cases f <;> rfl
@[simp] theorem State.putFlag_tPoll (s : State) (f : EdgeFlag) (b : Bool) : (s.putFlag f b).tPoll = s.tPoll := by cases f <;> rfl
@[simp] theorem State.putFlag_tIdle (s : State) (f : EdgeFlag) (b : Bool) : (s.putFlag f b).tIdle = s.tIdle := by cases f <;> rfl
@[simp] theorem State.putFlag_lastErr (s : State) (f : EdgeFlag) (b : Bool) : (s.putFlag f b).lastErr = s.lastErr := by cases f <;> rfl
@[simp] theorem State.putFlag_inv (s : State) (f : EdgeFlag) (b : Bool) : (s.putFlag f b).inv = s.inv := by cases f <;> rfl
@[simp] theorem State.putFlag_invOvf (s : State) (f : EdgeFlag) (b : Bool) : (s.putFlag f b).invOvf = s.invOvf := by cases f <;> rfl
@[simp] theorem State.putFlag_indOn (s : State) (f : EdgeFlag) (b : Bool) : (s.putFlag f b).indOn = s.indOn := by cases f <;> rfl
@[simp] theorem State.putFlag_tMotion (s : State) (f : EdgeFlag) (b : Bool) : (s.putFlag f b).tMotion = s.tMotion := by cases f <;> rfl
@[simp] theorem State.putFlag_m1Duty (s : State) (f : EdgeFlag) (b : Bool) : (s.putFlag f b).m1Duty = s.m1Duty := by cases f <;> rfl
@[simp] theorem State.putFlag_m1En (s : State) (f : EdgeFlag) (b : Bool) : (s.putFlag f b).m1En = s.m1En := by cases f <;> rfl
@[simp] theorem State.putFlag_m2On (s : State) (f : EdgeFlag) (b : Bool) : (s.putFlag f b).m2On = s.m2On := by cases f <;> rfl
@[simp] theorem State.putFlag_report (s : State) (f : EdgeFlag) (b : Bool) : (s.putFlag f b).report = s.report := by cases f <;> rfl
@[simp] theorem State.putFlag_inputs (s : State) (f : EdgeFlag) (b : Bool) : (s.putFlag f b).inputs = s.inputs := by cases f <;> rfl
@[simp] theorem State.putFlag_script (s : State) (f : EdgeFlag) (b : Bool) : (s.putFlag f b).script = s.script := by cases f <;> rfl
@[simp] theorem State.putFlag_envDrawn (s : State) (f : EdgeFlag) (b : Bool) : (s.putFlag f b).envDrawn = s.envDrawn := by cases f <;> rfl
@[simp] theorem State.putFlag_transitIn_fIn (s : State) (b : Bool) : (s.putFlag .transitIn b).fIn = b := rfl
@[simp] theorem State.putFlag_transitIn_fOut (s : State) (b : Bool) : (s.putFlag .transitIn b).fOut = s.fOut := rfl
@[simp] theorem State.putFlag_transitIn_fMotion (s : State) (b : Bool) : (s.putFlag .transitIn b).fMotion = s.fMotion := rfl
@[simp] theorem State.putFlag_transitOut_fIn (s : State) (b : Bool) : (s.putFlag .transitOut b).fIn = s.fIn := rfl
@[simp] theorem State.putFlag_transitOut_fOut (s : State) (b : Bool) : (s.putFlag .transitOut b).fOut = b := rfl
@[simp] theorem State.putFlag_transitOut_fMotion (s : State) (b : Bool) : (s.putFlag .transitOut b).fMotion = s.fMotion := rfl
@[simp] theorem State.putFlag_motion_fIn (s : State) (b : Bool) : (s.putFlag .motion b).fIn = s.fIn := rfl
@[simp] theorem State.putFlag_motion_fOut (s : State) (b : Bool) : (s.putFlag .motion b).fOut = s.fOut := rfl
@[simp] theorem State.putFlag_motion_fMotion (s : State) (b : Bool) : (s.putFlag .motion b).fMotion = b := rfl

/-! The increment: only the count and its sticky fault can change (R234). -/

@[simp] theorem State.invIncrement_cfg (s : State) : s.invIncrement.cfg = s.cfg := by unfold State.invIncrement; split <;> rfl
@[simp] theorem State.invIncrement_phase (s : State) : s.invIncrement.phase = s.phase := by unfold State.invIncrement; split <;> rfl
@[simp] theorem State.invIncrement_dstate (s : State) : s.invIncrement.dstate = s.dstate := by unfold State.invIncrement; split <;> rfl
@[simp] theorem State.invIncrement_frame (s : State) : s.invIncrement.frame = s.frame := by unfold State.invIncrement; split <;> rfl
@[simp] theorem State.invIncrement_bitcnt (s : State) : s.invIncrement.bitcnt = s.bitcnt := by unfold State.invIncrement; split <;> rfl
@[simp] theorem State.invIncrement_tMark (s : State) : s.invIncrement.tMark = s.tMark := by unfold State.invIncrement; split <;> rfl
@[simp] theorem State.invIncrement_dErr (s : State) : s.invIncrement.dErr = s.dErr := by unfold State.invIncrement; split <;> rfl
@[simp] theorem State.invIncrement_dHum (s : State) : s.invIncrement.dHum = s.dHum := by unfold State.invIncrement; split <;> rfl
@[simp] theorem State.invIncrement_dTemp (s : State) : s.invIncrement.dTemp = s.dTemp := by unfold State.invIncrement; split <;> rfl
@[simp] theorem State.invIncrement_sdaOe (s : State) : s.invIncrement.sdaOe = s.sdaOe := by unfold State.invIncrement; split <;> rfl
@[simp] theorem State.invIncrement_tPoll (s : State) : s.invIncrement.tPoll = s.tPoll := by unfold State.invIncrement; split <;> rfl
@[simp] theorem State.invIncrement_tIdle (s : State) : s.invIncrement.tIdle = s.tIdle := by unfold State.invIncrement; split <;> rfl
@[simp] theorem State.invIncrement_lastErr (s : State) : s.invIncrement.lastErr = s.lastErr := by unfold State.invIncrement; split <;> rfl
@[simp] theorem State.invIncrement_fIn (s : State) : s.invIncrement.fIn = s.fIn := by unfold State.invIncrement; split <;> rfl
@[simp] theorem State.invIncrement_fOut (s : State) : s.invIncrement.fOut = s.fOut := by unfold State.invIncrement; split <;> rfl
@[simp] theorem State.invIncrement_fMotion (s : State) : s.invIncrement.fMotion = s.fMotion := by unfold State.invIncrement; split <;> rfl
@[simp] theorem State.invIncrement_indOn (s : State) : s.invIncrement.indOn = s.indOn := by unfold State.invIncrement; split <;> rfl
@[simp] theorem State.invIncrement_tMotion (s : State) : s.invIncrement.tMotion = s.tMotion := by unfold State.invIncrement; split <;> rfl
@[simp] theorem State.invIncrement_m1Duty (s : State) : s.invIncrement.m1Duty = s.m1Duty := by unfold State.invIncrement; split <;> rfl
@[simp] theorem State.invIncrement_m1En (s : State) : s.invIncrement.m1En = s.m1En := by unfold State.invIncrement; split <;> rfl
@[simp] theorem State.invIncrement_m2On (s : State) : s.invIncrement.m2On = s.m2On := by unfold State.invIncrement; split <;> rfl
@[simp] theorem State.invIncrement_report (s : State) : s.invIncrement.report = s.report := by unfold State.invIncrement; split <;> rfl
@[simp] theorem State.invIncrement_inputs (s : State) : s.invIncrement.inputs = s.inputs := by unfold State.invIncrement; split <;> rfl
@[simp] theorem State.invIncrement_script (s : State) : s.invIncrement.script = s.script := by unfold State.invIncrement; split <;> rfl
@[simp] theorem State.invIncrement_envDrawn (s : State) : s.invIncrement.envDrawn = s.envDrawn := by unfold State.invIncrement; split <;> rfl

/-! ENV's item taken: only the script or the count of free choices changes (entries 1, 2). -/

@[simp] theorem State.takeItem_cfg (s : State) : s.takeItem.cfg = s.cfg := by unfold State.takeItem; split <;> rfl
@[simp] theorem State.takeItem_phase (s : State) : s.takeItem.phase = s.phase := by unfold State.takeItem; split <;> rfl
@[simp] theorem State.takeItem_dstate (s : State) : s.takeItem.dstate = s.dstate := by unfold State.takeItem; split <;> rfl
@[simp] theorem State.takeItem_frame (s : State) : s.takeItem.frame = s.frame := by unfold State.takeItem; split <;> rfl
@[simp] theorem State.takeItem_bitcnt (s : State) : s.takeItem.bitcnt = s.bitcnt := by unfold State.takeItem; split <;> rfl
@[simp] theorem State.takeItem_tMark (s : State) : s.takeItem.tMark = s.tMark := by unfold State.takeItem; split <;> rfl
@[simp] theorem State.takeItem_dErr (s : State) : s.takeItem.dErr = s.dErr := by unfold State.takeItem; split <;> rfl
@[simp] theorem State.takeItem_dHum (s : State) : s.takeItem.dHum = s.dHum := by unfold State.takeItem; split <;> rfl
@[simp] theorem State.takeItem_dTemp (s : State) : s.takeItem.dTemp = s.dTemp := by unfold State.takeItem; split <;> rfl
@[simp] theorem State.takeItem_sdaOe (s : State) : s.takeItem.sdaOe = s.sdaOe := by unfold State.takeItem; split <;> rfl
@[simp] theorem State.takeItem_tPoll (s : State) : s.takeItem.tPoll = s.tPoll := by unfold State.takeItem; split <;> rfl
@[simp] theorem State.takeItem_tIdle (s : State) : s.takeItem.tIdle = s.tIdle := by unfold State.takeItem; split <;> rfl
@[simp] theorem State.takeItem_lastErr (s : State) : s.takeItem.lastErr = s.lastErr := by unfold State.takeItem; split <;> rfl
@[simp] theorem State.takeItem_fIn (s : State) : s.takeItem.fIn = s.fIn := by unfold State.takeItem; split <;> rfl
@[simp] theorem State.takeItem_fOut (s : State) : s.takeItem.fOut = s.fOut := by unfold State.takeItem; split <;> rfl
@[simp] theorem State.takeItem_fMotion (s : State) : s.takeItem.fMotion = s.fMotion := by unfold State.takeItem; split <;> rfl
@[simp] theorem State.takeItem_inv (s : State) : s.takeItem.inv = s.inv := by unfold State.takeItem; split <;> rfl
@[simp] theorem State.takeItem_invOvf (s : State) : s.takeItem.invOvf = s.invOvf := by unfold State.takeItem; split <;> rfl
@[simp] theorem State.takeItem_indOn (s : State) : s.takeItem.indOn = s.indOn := by unfold State.takeItem; split <;> rfl
@[simp] theorem State.takeItem_tMotion (s : State) : s.takeItem.tMotion = s.tMotion := by unfold State.takeItem; split <;> rfl
@[simp] theorem State.takeItem_m1Duty (s : State) : s.takeItem.m1Duty = s.m1Duty := by unfold State.takeItem; split <;> rfl
@[simp] theorem State.takeItem_m1En (s : State) : s.takeItem.m1En = s.m1En := by unfold State.takeItem; split <;> rfl
@[simp] theorem State.takeItem_m2On (s : State) : s.takeItem.m2On = s.m2On := by unfold State.takeItem; split <;> rfl
@[simp] theorem State.takeItem_report (s : State) : s.takeItem.report = s.report := by unfold State.takeItem; split <;> rfl
@[simp] theorem State.takeItem_inputs (s : State) : s.takeItem.inputs = s.inputs := by unfold State.takeItem; split <;> rfl

end Sys2Proof.Machine
end

