-- ==== Sys2Proof/Laws/Ops.lean ====
section
/-! SUPPORT. One lemma for each shared operation, saying once everything it can do. -/

namespace Sys2Proof.Machine

/-! ## Time -/

/-- `elapsed` is the difference modulo `2^TW` over the integers (R235). -/
theorem elapsedMod_eq_emod (tw now t : Nat) : ((elapsedMod tw now t : Nat) : Int) = ((now : Int) - t) % 2 ^ tw := by
  have hpos : 0 < 2 ^ tw := Nat.two_pow_pos tw
  have hle : t % 2 ^ tw ≤ 2 ^ tw := (Nat.mod_lt t hpos).le
  have hmod : ((t : Int) % 2 ^ tw) = ((t % 2 ^ tw : Nat) : Int) := by push_cast; rfl
  unfold elapsedMod
  rw [Int.natCast_mod, Nat.cast_add, Nat.cast_sub hle, Nat.cast_pow, Nat.cast_ofNat, ← hmod,
    show (now : Int) + (2 ^ tw - (t : Int) % 2 ^ tw) = (now - (t : Int) % 2 ^ tw) + 2 ^ tw by ring,
    Int.add_emod_right, Int.sub_emod_emod]

/-- `elapsed` never reaches `2^TW`. -/
theorem elapsedMod_lt (tw now t : Nat) : elapsedMod tw now t < 2 ^ tw :=
  Nat.mod_lt _ (Nat.two_pow_pos tw)

/-- The timer's test as the rules write it. -/
theorem State.timerDone_iff (s : State) (t bound : Nat) :
    s.timerDone t bound = true ↔ (bound : Int) ≤ s.since t := by
  unfold State.since
  rw [← elapsedMod_eq_emod, Nat.cast_le]
  exact decide_eq_true_iff

/-- The timer's test on a stamp of a true time less than `2^TW` ago. -/
theorem State.since_stamp (s : State) (t0 : Nat) (h : t0 ≤ s.inputs.now) (hw : s.inputs.now - t0 < 2 ^ s.cfg.tw) :
    s.since (t0 % 2 ^ s.cfg.tw) = (s.inputs.now : Int) - t0 := by
  have hc : ((t0 % 2 ^ s.cfg.tw : Nat) : Int) = (t0 : Int) % 2 ^ s.cfg.tw := by push_cast; rfl
  have hp : ((2 ^ s.cfg.tw : Nat) : Int) = 2 ^ s.cfg.tw := by push_cast; rfl
  unfold State.since
  rw [hc, Int.sub_emod_emod, Int.emod_eq_of_lt (by omega) (by omega)]

/-- A stamp fits its register. -/
theorem State.nowStamp_lt (s : State) : s.nowStamp < 2 ^ s.cfg.tw := Nat.mod_lt _ (Nat.two_pow_pos _)

/-! ## The frame -/

/-- One sample shifted in, as arithmetic (R91). -/
theorem shiftIn_toNat (f : Frame) (b : Bool) : (shiftIn f b).toNat = (2 * f.toNat + b.toNat) % 2 ^ 40 := by
  have hf := f.isLt
  have hb : b.toNat < 2 := by cases b <;> decide
  rw [shiftIn, BitVec.toNat_append, BitVec.extractLsb'_toNat, Nat.shiftRight_zero, BitVec.toNat_ofBool,
    Nat.shiftLeft_eq, Nat.mul_comm, ← Nat.two_pow_add_eq_or_of_lt (by simpa using hb)]
  omega

/-- Byte `i` of a frame as arithmetic (R91). -/
theorem frameByte_toNat (f : Frame) (i : Nat) : (frameByte f i).toNat = f.toNat / 2 ^ (32 - 8 * i) % 256 := by
  simp [frameByte, BitVec.extractLsb'_toNat, Nat.shiftRight_eq_div_pow]

/-- A good frame, as R92 writes it. -/
theorem frameGood_iff (f : Frame) :
    frameGood f = true ↔ (frameByte f 4).toNat =
      ((frameByte f 0).toNat + (frameByte f 1).toNat + (frameByte f 2).toNat + (frameByte f 3).toNat) % 256 := by
  exact decide_eq_true_iff

/-! ## Waits, flags, count -/

/-- Everything a bounded wait can do (R129). -/
theorem State.boundedWait_cases (s : State) (want : Bool) (next : DState) :
    (s.inputs.sdaIn = want ∧ s.boundedWait want next = s.enterDState next) ∨
    (s.inputs.sdaIn ≠ want ∧ (s.cfg.tWait : Int) ≤ s.since s.tMark ∧
      s.boundedWait want next = s.raiseDecodeFault .timeout) ∨
    (s.inputs.sdaIn ≠ want ∧ ¬ (s.cfg.tWait : Int) ≤ s.since s.tMark ∧ s.boundedWait want next = s) := by
  unfold State.boundedWait State.lineSample
  by_cases h : s.inputs.sdaIn = want
  · exact .inl ⟨h, by simp [h]⟩
  · by_cases ht : s.timerDone s.tMark s.cfg.tWait = true
    · exact .inr (.inl ⟨h, (s.timerDone_iff _ _).1 ht, by simp [h, ht]⟩)
    · exact .inr (.inr ⟨h, mt (s.timerDone_iff _ _).2 ht, by simp [h, ht]⟩)

/-- Everything the increment can do (R234). -/
theorem State.invIncrement_cases (s : State) :
    (s.inv = 2 ^ s.cfg.cw - 1 ∧ s.invIncrement.inv = s.inv ∧ s.invIncrement.invOvf = true) ∨
    (s.inv ≠ 2 ^ s.cfg.cw - 1 ∧ s.invIncrement.inv = (s.inv + 1) % 2 ^ s.cfg.cw ∧
      s.invIncrement.invOvf = s.invOvf) := by
  unfold State.invIncrement maxCount
  by_cases h : s.inv = 2 ^ s.cfg.cw - 1
  · exact .inl ⟨h, by simp [h], by simp [h]⟩
  · exact .inr ⟨h, by simp [h], by simp [h]⟩

/-- The increment keeps the count in its register. -/
theorem State.invIncrement_lt (s : State) (h : s.inv < 2 ^ s.cfg.cw) : s.invIncrement.inv < 2 ^ s.cfg.cw := by
  obtain ⟨-, hi, -⟩ | ⟨-, hi, -⟩ := s.invIncrement_cases
  · rw [hi]; exact h
  · rw [hi]; exact Nat.mod_lt _ (Nat.two_pow_pos _)

/-- A store, then the test-and-clear of the same flag: it is seen and cleared (R73). -/
theorem State.testAndClear_setFlag (s : State) (f : EdgeFlag) :
    ((s.setFlag f).testAndClear f) = (true, s.putFlag f false) := by
  cases f <;> rfl

/-- Motor 1's two commands (R220). -/
theorem m1Command_cases (c : Config) (temp hum : Byte) :
    ((c.humThresh < hum.toNat ∨ c.tempThresh < temp.toNat) ∧
      m1Command c temp hum = ⟨BitVec.ofNat 7 c.dutyFull, true⟩) ∨
    (hum.toNat ≤ c.humThresh ∧ temp.toNat ≤ c.tempThresh ∧ m1Command c temp hum = ⟨0#7, false⟩) := by
  unfold m1Command
  split
  · exact .inl ⟨‹_›, rfl⟩
  · exact .inr ⟨by omega, by omega, rfl⟩

end Sys2Proof.Machine
end

