-- ==== Sys2Proof/Laws/Step.lean ====
section
/-! SUPPORT. What a step can do, said once: the next states of `mainStep`, of `step`, and the shape of a run. -/

namespace Sys2Proof.Machine

/-- Every operation answers a next state: none of them stops. -/
theorem exec_answers (i : Instr) (s : State) : ∃ t, exec i s = .next t := by
  cases i <;> exact ⟨_, rfl⟩

/-- What a MAIN step can answer as a next state. -/
theorem mainStep_next {inp : Inputs} {s t : State} (h : mainStep inp s = .next t) :
    s.inputs.now ≤ inp.now ∧ ∃ i, decodeSeq s.seq = .ok i ∧ exec i { s with inputs := inp } = .next t := by
  unfold mainStep at h
  split at h
  · cases h
  · refine ⟨by omega, ?_⟩
    split at h
    · exact ⟨_, ‹_›, h⟩
    · cases h

/-- What a step can answer as a next state: an operation of MAIN on ENV's inputs, an operation of CAPTURE, or
the release of reset. -/
theorem step_next {s t : State} (h : step s = .next t) :
    (∃ now sda bs bp i, s.nextItem = .main now sda bs bp ∧ s.inputs.now ≤ now ∧ decodeSeq s.seq = .ok i ∧
      exec i { s.takeItem with inputs := ⟨now, sda, bs, bp⟩ } = .next t) ∨
    (∃ src edge, s.nextItem = .capture src edge ∧ exec (decodeEv (evWord src edge)) s.takeItem = .next t) ∨
    (∃ n, s.nextItem = .reset n ∧ s.inputs.now ≤ n ∧ t = s.takeItem.releaseReset n) := by
  unfold step deliver at h
  split at h
  · rename_i now sda bs bp he
    obtain ⟨hle, i, hi, hx⟩ := mainStep_next h
    exact .inl ⟨now, sda, bs, bp, i, he, by simpa using hle, by simpa [State.seq] using hi, hx⟩
  · rename_i src edge he
    exact .inr (.inl ⟨src, edge, he, h⟩)
  · rename_i n he
    unfold resetStep at h
    split at h
    · cases h
    · exact .inr (.inr ⟨n, he, by simp_all, by simpa using h.symm⟩)

/-- Every step that faults does so at a reserved sequencer word. -/
theorem step_fault {s : State} {f : Fault} (h : step s = .fault f) :
    decodeSeq s.seq = .error (.reservedSeq s.seq) := by
  unfold step deliver at h
  split at h
  · unfold mainStep at h
    split at h
    · cases h
    · split at h
      · rename_i i hi
        obtain ⟨t, ht⟩ := exec_answers i { s.takeItem with inputs := _ }
        rw [ht] at h; cases h
      · rename_i w hw
        have : s.takeItem.seq = s.seq := by simp [State.seq]
        rw [this] at hw
        rw [hw]
        unfold decodeSeq at hw
        split at hw <;> simp_all
  · obtain ⟨t, ht⟩ := exec_answers (decodeEv (evWord _ _)) s.takeItem
    unfold captureStep at h
    rw [ht] at h; cases h
  · unfold resetStep at h
    split at h <;> cases h

/-- A run of `n + 1` steps is a step and a run of `n`. -/
theorem run_succ (n : Nat) (s : State) :
    Sys2Proof.core.run (n + 1) s =
      match step s with
      | .next t => Sys2Proof.core.run n t
      | .fault f => .fault f
      | .refused r => .refused r := by
  cases h : step s <;> simp [Host.Core.run, Sys2Proof.core, h]

/-- A run that answers a next state after `n + 1` steps did so after `n`. -/
theorem run_split {n : Nat} {s t : State} (h : Sys2Proof.core.run (n + 1) s = .next t) :
    ∃ u, Sys2Proof.core.run n s = .next u ∧ step u = .next t := by
  induction n generalizing s with
  | zero =>
    refine ⟨s, rfl, ?_⟩
    rw [run_succ] at h
    split at h
    · rename_i v hv; rw [hv]; exact h
    · cases h
    · cases h
  | succ n ih =>
    rw [run_succ] at h
    split at h
    · rename_i v hv
      obtain ⟨u, hu, hs⟩ := ih h
      refine ⟨u, ?_, hs⟩
      rw [run_succ, hv]; exact hu
    · cases h
    · cases h

/-- A property that every step keeps holds after any run. -/
theorem run_induction {P : State → Prop} (hstep : ∀ s t, P s → step s = .next t → P t) {n : Nat} {s t : State}
    (hs : P s) (h : Sys2Proof.core.run n s = .next t) : P t := by
  induction n generalizing t with
  | zero => cases h; exact hs
  | succ n ih =>
    obtain ⟨u, hu, hst⟩ := run_split h
    exact hstep u t (ih hu) hst

end Sys2Proof.Machine
end

