-- ==== Sys2Proof/Laws/Exec.lean ====
section
/-! SUPPORT. Where in the sequence an operation stands, and for every operation the next states it can answer,
said once by the named updates. -/

namespace Sys2Proof.Machine

/-- The phase and decoder state at which MAIN runs an operation (R96). -/
def place : Instr → Option (Phase × DState)
  | .loopPoll => some (PH_POLL, D_IDLE)
  | .decReq => some (PH_DECODE, D_REQ)
  | .decTurn => some (PH_DECODE, D_TURN)
  | .decAckl => some (PH_DECODE, D_ACKL)
  | .decAckh => some (PH_DECODE, D_ACKH)
  | .decBith => some (PH_DECODE, D_BITH)
  | .decBitd => some (PH_DECODE, D_BITD)
  | .decBitl => some (PH_DECODE, D_BITL)
  | .decChk => some (PH_DECODE, D_CHK)
  | .loopRet => some (PH_DECODE, D_DONE)
  | .loopDrin => some (PH_DRAIN_IN, D_IDLE)
  | .loopDrout => some (PH_DRAIN_OUT, D_IDLE)
  | .loopDrmot => some (PH_DRAIN_MOTION, D_IDLE)
  | .loopCool => some (PH_COOLDOWN, D_IDLE)
  | .loopBtn => some (PH_BUTTONS, D_IDLE)
  | .loopIdle => some (PH_IDLE, D_IDLE)
  | _ => none

/-- A sequencer word selects an operation only at that operation's place. -/
theorem place_of_decodeSeq {p : Phase} {d : DState} {i : Instr} (h : decodeSeq (p ++ d) = .ok i) :
    place i = some (p, d) := by
  have all : ∀ (p : Phase) (d : DState),
      ∀ i ∈ (decodeSeq (p ++ d)).toOption, place i = some (p, d) := by decide
  exact all p d i (by simp [h, Except.toOption])

/-- At a state whose word selects an operation, `phase` and `dstate` are that operation's. -/
theorem State.place_of_seq {s : State} {i : Instr} (h : decodeSeq s.seq = .ok i) :
    place i = some (s.phase, s.dstate) := place_of_decodeSeq h

/-- A legal word selects some operation (R97). -/
theorem State.seqLegal_iff (s : State) : s.seqLegal ↔ ∃ i, decodeSeq s.seq = .ok i := by
  have all : ∀ (p : Phase) (d : DState), (if p = PH_DECODE then D_REQ ≤ d ∧ d ≤ D_DONE else d = D_IDLE) ↔
      (decodeSeq (p ++ d)).isOk = true := by decide
  rw [show s.seqLegal ↔ _ from all s.phase s.dstate]
  unfold State.seq
  cases decodeSeq (s.phase ++ s.dstate) <;> simp [Except.isOk, Except.toBool]

/-! ## The decoder's operations -/

theorem execDecReq_cases {s t : State} (h : exec .decReq s = .next t) :
    ((s.cfg.tReq : Int) ≤ s.since s.tMark ∧ t = (s.lineDrive false).enterDState D_TURN) ∨
    (¬ (s.cfg.tReq : Int) ≤ s.since s.tMark ∧ t = s) := by
  simp only [exec, execDecReq, Host.Outcome.next.injEq, s.timerDone_iff] at h
  split at h
  · exact .inl ⟨‹_›, h.symm⟩
  · exact .inr ⟨‹_›, h.symm⟩

theorem execDecTurn_cases {s t : State} (h : exec .decTurn s = .next t) :
    ((s.cfg.tTurn : Int) ≤ s.since s.tMark ∧ s.inputs.sdaIn = true ∧ t = s.raiseDecodeFault .noResponse) ∨
    ((s.cfg.tTurn : Int) ≤ s.since s.tMark ∧ s.inputs.sdaIn = false ∧ t = s.enterDState D_ACKL) ∨
    (¬ (s.cfg.tTurn : Int) ≤ s.since s.tMark ∧ t = s) := by
  simp only [exec, execDecTurn, Host.Outcome.next.injEq, s.timerDone_iff] at h
  split at h
  · split at h
    · exact .inl ⟨‹_›, ‹_›, h.symm⟩
    · rename_i hl
      exact .inr (.inl ⟨‹_›, Bool.eq_false_of_not_eq_true hl, h.symm⟩)
  · exact .inr (.inr ⟨‹_›, h.symm⟩)

/-- The four bounded waits, with the level each waits for and the state it leads to (R123 to R125, R127). -/
theorem execWait_cases {s t : State} {i : Instr} {want : Bool} {next : DState}
    (hi : (i, want, next) = (.decAckl, true, D_ACKH) ∨ (i, want, next) = (.decAckh, false, D_BITH) ∨
      (i, want, next) = (.decBith, true, D_BITD) ∨
      (i, want, next) = (.decBitl, false, if s.bitcnt.toNat = s.cfg.nSlots then D_CHK else D_BITH))
    (h : exec i s = .next t) :
    (s.inputs.sdaIn = want ∧ t = s.enterDState next) ∨
    (s.inputs.sdaIn ≠ want ∧ (s.cfg.tWait : Int) ≤ s.since s.tMark ∧ t = s.raiseDecodeFault .timeout) ∨
    (s.inputs.sdaIn ≠ want ∧ ¬ (s.cfg.tWait : Int) ≤ s.since s.tMark ∧ t = s) := by
  have ht : t = s.boundedWait want next := by
    obtain hi | hi | hi | hi := hi <;> cases hi <;> exact (Host.Outcome.next.inj h).symm
  rw [ht]
  exact s.boundedWait_cases want next

theorem execDecBitd_cases {s t : State} (h : exec .decBitd s = .next t) :
    ((s.cfg.tSample : Int) ≤ s.since s.tMark ∧ t = (s.takeSample s.inputs.sdaIn).enterDState D_BITL) ∨
    (¬ (s.cfg.tSample : Int) ≤ s.since s.tMark ∧ t = s) := by
  simp only [exec, execDecBitd, Host.Outcome.next.injEq, s.timerDone_iff] at h
  split at h
  · exact .inl ⟨‹_›, h.symm⟩
  · exact .inr ⟨‹_›, h.symm⟩

theorem execDecChk_cases {s t : State} (h : exec .decChk s = .next t) :
    (frameGood s.frame = true ∧
      t = { s with dHum := frameHum s.frame, dTemp := frameTemp s.frame, dErr := .none, dstate := D_DONE }) ∨
    (frameGood s.frame = false ∧ t = { s with dErr := .checksum, dstate := D_DONE }) := by
  simp only [exec, execDecChk, Host.Outcome.next.injEq] at h
  split at h
  · exact .inl ⟨‹_›, h.symm⟩
  · rename_i hg
    exact .inr ⟨Bool.eq_false_of_not_eq_true hg, h.symm⟩

/-! ## The control loop's operations -/

theorem execLoopPoll_cases {s t : State} (h : exec .loopPoll s = .next t) :
    ((s.cfg.tPoll : Int) ≤ s.since s.tPoll ∧ t = s.callDecoder) ∨
    (¬ (s.cfg.tPoll : Int) ≤ s.since s.tPoll ∧ t = s.setSeq PH_DRAIN_IN D_IDLE) := by
  simp only [exec, execLoopPoll, Host.Outcome.next.injEq, s.timerDone_iff] at h
  split at h
  · exact .inl ⟨‹_›, h.symm⟩
  · exact .inr ⟨‹_›, h.symm⟩

theorem execLoopRet_cases {s t : State} (h : exec .loopRet s = .next t) :
    (s.dErr = .none ∧ t = ((s.putMotor1 (m1Command s.cfg s.dTemp s.dHum)).emit .reading s.dTemp.toNat
      s.dHum.toNat).returnFromDecoder) ∨
    (s.dErr ≠ .none ∧ t = (s.emit .sensorError 0 0).returnFromDecoder) := by
  simp only [exec, execLoopRet, State.useResult, Host.Outcome.next.injEq] at h
  split at h
  · exact .inl ⟨‹_›, h.symm⟩
  · exact .inr ⟨‹_›, h.symm⟩

/-- Everything a drain can do (R66). -/
theorem State.drain_cases (s : State) (f : EdgeFlag) (action : State → State) :
    (s.flag f = true ∧ s.drain f action = action (s.putFlag f false)) ∨
    (s.flag f = false ∧ s.drain f action = s) := by
  unfold State.drain State.testAndClear
  cases h : s.flag f
  · refine .inr ⟨rfl, ?_⟩
    cases f <;> simp only [State.flag] at h <;> simp [State.putFlag, ← h]
  · exact .inl ⟨rfl, rfl⟩

theorem execLoopDrin_cases {s t : State} (h : exec .loopDrin s = .next t) :
    (s.fIn = true ∧ t = (s.putFlag .transitIn false).itemEntered.setSeq PH_DRAIN_OUT D_IDLE) ∨
    (s.fIn = false ∧ t = s.setSeq PH_DRAIN_OUT D_IDLE) := by
  have ht : t = (s.drain .transitIn State.itemEntered).setSeq PH_DRAIN_OUT D_IDLE := (Host.Outcome.next.inj h).symm
  obtain ⟨hf, hd⟩ | ⟨hf, hd⟩ := s.drain_cases .transitIn State.itemEntered
  · exact .inl ⟨hf, by rw [ht, hd]⟩
  · exact .inr ⟨hf, by rw [ht, hd]⟩

theorem execLoopDrout_cases {s t : State} (h : exec .loopDrout s = .next t) :
    (s.fOut = true ∧ t = (s.putFlag .transitOut false).itemRemoved.setSeq PH_DRAIN_MOTION D_IDLE) ∨
    (s.fOut = false ∧ t = s.setSeq PH_DRAIN_MOTION D_IDLE) := by
  have ht : t = (s.drain .transitOut State.itemRemoved).setSeq PH_DRAIN_MOTION D_IDLE :=
    (Host.Outcome.next.inj h).symm
  obtain ⟨hf, hd⟩ | ⟨hf, hd⟩ := s.drain_cases .transitOut State.itemRemoved
  · exact .inl ⟨hf, by rw [ht, hd]⟩
  · exact .inr ⟨hf, by rw [ht, hd]⟩

theorem execLoopDrmot_cases {s t : State} (h : exec .loopDrmot s = .next t) :
    (s.fMotion = true ∧ s.indOn = true ∧
      t = { s with fMotion := false, tMotion := s.nowStamp }.setSeq PH_COOLDOWN D_IDLE) ∨
    (s.fMotion = true ∧ s.indOn = false ∧
      t = ({ s with fMotion := false, indOn := true, tMotion := s.nowStamp }.emit .motionOn 0 0).setSeq
        PH_COOLDOWN D_IDLE) ∨
    (s.fMotion = false ∧ t = s.setSeq PH_COOLDOWN D_IDLE) := by
  have ht : t = (s.drain .motion State.motionSeen).setSeq PH_COOLDOWN D_IDLE := (Host.Outcome.next.inj h).symm
  obtain ⟨hf, hd⟩ | ⟨hf, hd⟩ := s.drain_cases .motion State.motionSeen
  · cases hi : s.indOn
    · exact .inr (.inl ⟨hf, rfl, by rw [ht, hd]; simp [State.motionSeen, hi, State.putFlag]; rfl⟩)
    · exact .inl ⟨hf, rfl, by rw [ht, hd]; simp [State.motionSeen, hi, State.putFlag]; rfl⟩
  · exact .inr (.inr ⟨hf, by rw [ht, hd]⟩)

theorem execLoopCool_cases {s t : State} (h : exec .loopCool s = .next t) :
    (s.indOn = true ∧ (s.cfg.tCool : Int) ≤ s.since s.tMotion ∧
      t = ({ s with indOn := false }.emit .indOff 0 0).setSeq PH_BUTTONS D_IDLE) ∨
    (¬ (s.indOn = true ∧ (s.cfg.tCool : Int) ≤ s.since s.tMotion) ∧ t = s.setSeq PH_BUTTONS D_IDLE) := by
  simp only [exec, execLoopCool, Host.Outcome.next.injEq, Bool.and_eq_true, s.timerDone_iff] at h
  split at h
  · rename_i hc; exact .inl ⟨hc.1, hc.2, h.symm⟩
  · exact .inr ⟨‹_›, h.symm⟩

theorem execLoopBtn_cases {s t : State} (h : exec .loopBtn s = .next t) :
    (s.m2On = false ∧ s.inputs.btnStart = true ∧
      t = ({ s with m2On := true, tIdle := s.nowStamp }.emit .m2On 0 0).setSeq PH_IDLE D_IDLE) ∨
    (s.m2On = true ∧ s.inputs.btnStop = true ∧
      t = { s with m2On := false, tIdle := s.nowStamp }.setSeq PH_IDLE D_IDLE) ∨
    ((s.m2On = false ∧ s.inputs.btnStart = false ∨ s.m2On = true ∧ s.inputs.btnStop = false) ∧
      t = { s with tIdle := s.nowStamp }.setSeq PH_IDLE D_IDLE) := by
  have ht : t = { s.sampleButtons with tIdle := s.nowStamp }.setSeq PH_IDLE D_IDLE :=
    (Host.Outcome.next.inj h).symm
  rw [ht]
  cases h1 : s.m2On <;> cases h2 : s.inputs.btnStart <;> cases h3 : s.inputs.btnStop <;>
    simp [State.sampleButtons, m2Starts, m2Next, h1, h2, h3, State.emit, State.setSeq]

theorem execLoopIdle_cases {s t : State} (h : exec .loopIdle s = .next t) :
    ((s.cfg.tIdle : Int) ≤ s.since s.tIdle ∧ t = s.setSeq PH_POLL D_IDLE) ∨
    (¬ (s.cfg.tIdle : Int) ≤ s.since s.tIdle ∧ t = s) := by
  simp only [exec, execLoopIdle, Host.Outcome.next.injEq, s.timerDone_iff] at h
  split at h
  · exact .inl ⟨‹_›, h.symm⟩
  · exact .inr ⟨‹_›, h.symm⟩

/-! ## The capture operations -/

/-- The next states of an operation of CAPTURE: nothing, or one flag set (R160). -/
theorem execCapture_cases {i : Instr} {s t : State} (hi : i.agent = .capture) (h : exec i s = .next t) :
    t = s ∨ ∃ f, t = s.setFlag f := by
  cases i <;> first
    | exact absurd hi (by decide)
    | exact .inl (Host.Outcome.next.inj h).symm
    | exact .inr ⟨.transitIn, (Host.Outcome.next.inj h).symm⟩
    | exact .inr ⟨.transitOut, (Host.Outcome.next.inj h).symm⟩
    | exact .inr ⟨.motion, (Host.Outcome.next.inj h).symm⟩

/-- An event word selects an operation of CAPTURE (R100). -/
theorem decodeEv_agent (w : EvWord) : (decodeEv w).agent = .capture := by revert w; decide

/-- A sequencer word selects an operation of MAIN (R96). -/
theorem decodeSeq_agent {w : SeqWord} {i : Instr} (h : decodeSeq w = .ok i) : i.agent = .main := by
  have all : ∀ w : SeqWord, ∀ i ∈ (decodeSeq w).toOption, i.agent = .main := by decide
  exact all w i (by simp [h, Except.toOption])

end Sys2Proof.Machine
end

