-- ==== Sys2Proof/Laws/Move.lean ====
section
/-! SUPPORT. What a MAIN step can do, said once as a relation: the moves of the sequencer, each with its
condition, and the theorem that an operation run at its own place makes one of them. -/

namespace Sys2Proof.Machine

/-- The moves of MAIN: operation, state before, state after. -/
inductive Move : Instr → State → State → Prop where
  /-- The poll timer has run out: the decoder is called (R184). -/
  | pollCalls (s : State) (hp : s.phase = PH_POLL) (hd : s.dstate = D_IDLE) (h : (s.cfg.tPoll : Int) ≤ s.since s.tPoll) :
      Move .loopPoll s s.callDecoder
  /-- No poll in this iteration (R184). -/
  | pollSkips (s : State) (hp : s.phase = PH_POLL) (hd : s.dstate = D_IDLE) (h : ¬ (s.cfg.tPoll : Int) ≤ s.since s.tPoll) :
      Move .loopPoll s (s.setSeq PH_DRAIN_IN D_IDLE)
  /-- The request pulse ends (R121). -/
  | releases (s : State) (hp : s.phase = PH_DECODE) (hd : s.dstate = D_REQ) (h : (s.cfg.tReq : Int) ≤ s.since s.tMark) :
      Move .decReq s ((s.lineDrive false).enterDState D_TURN)
  /-- The line is high at the first sample (R122). -/
  | noResponse (s : State) (hp : s.phase = PH_DECODE) (hd : s.dstate = D_TURN) (h : (s.cfg.tTurn : Int) ≤ s.since s.tMark) (h' : s.inputs.sdaIn = true) :
      Move .decTurn s (s.raiseDecodeFault .noResponse)
  /-- The line is low at the first sample (R122). -/
  | acknowledged (s : State) (hp : s.phase = PH_DECODE) (hd : s.dstate = D_TURN) (h : (s.cfg.tTurn : Int) ≤ s.since s.tMark) (h' : s.inputs.sdaIn = false) :
      Move .decTurn s (s.enterDState D_ACKL)
  /-- An awaited level is there (R129). -/
  | levelSeen (s : State) (i : Instr) (want : Bool) (next : DState) (hp : s.phase = PH_DECODE)
      (hw : (i, want, next) = (.decAckl, true, D_ACKH) ∧ s.dstate = D_ACKL ∨
      (i, want, next) = (.decAckh, false, D_BITH) ∧ s.dstate = D_ACKH ∨
      (i, want, next) = (.decBith, true, D_BITD) ∧ s.dstate = D_BITH ∨
      (i, want, next) = (.decBitl, false, if s.bitcnt.toNat = s.cfg.nSlots then D_CHK else D_BITH) ∧
        s.dstate = D_BITL)
      (hl : s.inputs.sdaIn = want) : Move i s (s.enterDState next)
  /-- An awaited level is not there at the bound (R129). -/
  | timesOut (s : State) (i : Instr) (want : Bool) (next : DState) (hp : s.phase = PH_DECODE)
      (hw : (i, want, next) = (.decAckl, true, D_ACKH) ∧ s.dstate = D_ACKL ∨
      (i, want, next) = (.decAckh, false, D_BITH) ∧ s.dstate = D_ACKH ∨
      (i, want, next) = (.decBith, true, D_BITD) ∧ s.dstate = D_BITH ∨
      (i, want, next) = (.decBitl, false, if s.bitcnt.toNat = s.cfg.nSlots then D_CHK else D_BITH) ∧
        s.dstate = D_BITL)
      (hl : s.inputs.sdaIn ≠ want) (ht : (s.cfg.tWait : Int) ≤ s.since s.tMark) :
      Move i s (s.raiseDecodeFault .timeout)
  /-- The sampling delay has run: a sample (R126). -/
  | samples (s : State) (hp : s.phase = PH_DECODE) (hd : s.dstate = D_BITD) (h : (s.cfg.tSample : Int) ≤ s.since s.tMark) :
      Move .decBitd s ((s.takeSample s.inputs.sdaIn).enterDState D_BITL)
  /-- A good checksum (R128). -/
  | validates (s : State) (hp : s.phase = PH_DECODE) (hd : s.dstate = D_CHK) (h : frameGood s.frame = true) :
      Move .decChk s { s with dHum := frameHum s.frame, dTemp := frameTemp s.frame, dErr := .none, dstate := D_DONE }
  /-- A bad checksum (R128). -/
  | rejects (s : State) (hp : s.phase = PH_DECODE) (hd : s.dstate = D_CHK) (h : frameGood s.frame = false) :
      Move .decChk s { s with dErr := .checksum, dstate := D_DONE }
  /-- A good result is used (R186). -/
  | usesReading (s : State) (hp : s.phase = PH_DECODE) (hd : s.dstate = D_DONE) (h : s.dErr = .none) :
      Move .loopRet s ((s.putMotor1 (m1Command s.cfg s.dTemp s.dHum)).emit .reading s.dTemp.toNat s.dHum.toNat).returnFromDecoder
  /-- A failed read is reported (R186, R243). -/
  | reportsFault (s : State) (hp : s.phase = PH_DECODE) (hd : s.dstate = D_DONE) (h : s.dErr ≠ .none) :
      Move .loopRet s (s.emit .sensorError 0 0).returnFromDecoder
  /-- transitIn drained (R188). -/
  | drainsIn (s : State) (hp : s.phase = PH_DRAIN_IN) (hd : s.dstate = D_IDLE) (h : s.fIn = true) :
      Move .loopDrin s ((s.putFlag .transitIn false).itemEntered.setSeq PH_DRAIN_OUT D_IDLE)
  /-- No transitIn pending (R188). -/
  | skipsIn (s : State) (hp : s.phase = PH_DRAIN_IN) (hd : s.dstate = D_IDLE) (h : s.fIn = false) :
      Move .loopDrin s (s.setSeq PH_DRAIN_OUT D_IDLE)
  /-- transitOut drained (R190). -/
  | drainsOut (s : State) (hp : s.phase = PH_DRAIN_OUT) (hd : s.dstate = D_IDLE) (h : s.fOut = true) :
      Move .loopDrout s ((s.putFlag .transitOut false).itemRemoved.setSeq PH_DRAIN_MOTION D_IDLE)
  /-- No transitOut pending (R190). -/
  | skipsOut (s : State) (hp : s.phase = PH_DRAIN_OUT) (hd : s.dstate = D_IDLE) (h : s.fOut = false) :
      Move .loopDrout s (s.setSeq PH_DRAIN_MOTION D_IDLE)
  /-- motion drained, indicator already on (R192). -/
  | drainsMotionOn (s : State) (hp : s.phase = PH_DRAIN_MOTION) (hd : s.dstate = D_IDLE) (h : s.fMotion = true) (h' : s.indOn = true) :
      Move .loopDrmot s ({ s with fMotion := false, tMotion := s.nowStamp }.setSeq PH_COOLDOWN D_IDLE)
  /-- motion drained, indicator turned on (R192). -/
  | drainsMotionOff (s : State) (hp : s.phase = PH_DRAIN_MOTION) (hd : s.dstate = D_IDLE) (h : s.fMotion = true) (h' : s.indOn = false) :
      Move .loopDrmot s (({ s with fMotion := false, indOn := true, tMotion := s.nowStamp }.emit .motionOn 0 0).setSeq PH_COOLDOWN D_IDLE)
  /-- No motion pending (R192). -/
  | skipsMotion (s : State) (hp : s.phase = PH_DRAIN_MOTION) (hd : s.dstate = D_IDLE) (h : s.fMotion = false) :
      Move .loopDrmot s (s.setSeq PH_COOLDOWN D_IDLE)
  /-- The cooldown has run out (R194). -/
  | coolsDown (s : State) (hp : s.phase = PH_COOLDOWN) (hd : s.dstate = D_IDLE) (h : s.indOn = true) (h' : (s.cfg.tCool : Int) ≤ s.since s.tMotion) :
      Move .loopCool s (({ s with indOn := false }.emit .indOff 0 0).setSeq PH_BUTTONS D_IDLE)
  /-- The indicator is off or still cooling down (R194). -/
  | staysWarm (s : State) (hp : s.phase = PH_COOLDOWN) (hd : s.dstate = D_IDLE) (h : ¬ (s.indOn = true ∧ (s.cfg.tCool : Int) ≤ s.since s.tMotion)) :
      Move .loopCool s (s.setSeq PH_BUTTONS D_IDLE)
  /-- Motor 2 starts (R196, R222). -/
  | starts (s : State) (hp : s.phase = PH_BUTTONS) (hd : s.dstate = D_IDLE) (h : s.m2On = false) (h' : s.inputs.btnStart = true) :
      Move .loopBtn s (({ s with m2On := true, tIdle := s.nowStamp }.emit .m2On 0 0).setSeq PH_IDLE D_IDLE)
  /-- Motor 2 stops (R196, R222). -/
  | stops (s : State) (hp : s.phase = PH_BUTTONS) (hd : s.dstate = D_IDLE) (h : s.m2On = true) (h' : s.inputs.btnStop = true) :
      Move .loopBtn s ({ s with m2On := false, tIdle := s.nowStamp }.setSeq PH_IDLE D_IDLE)
  /-- Neither check fires (R196, R222). -/
  | keepsMotor2 (s : State) (hp : s.phase = PH_BUTTONS) (hd : s.dstate = D_IDLE) (h : s.m2On = false ∧ s.inputs.btnStart = false ∨ s.m2On = true ∧ s.inputs.btnStop = false) :
      Move .loopBtn s ({ s with tIdle := s.nowStamp }.setSeq PH_IDLE D_IDLE)
  /-- The closing delay has run out (R198). -/
  | idleOver (s : State) (hp : s.phase = PH_IDLE) (hd : s.dstate = D_IDLE) (h : (s.cfg.tIdle : Int) ≤ s.since s.tIdle) :
      Move .loopIdle s (s.setSeq PH_POLL D_IDLE)
  /-- A fixed delay has not run out: nothing changes (R200). -/
  | delays (s : State) (i : Instr) (bound stamp : Nat)
      (hw : i = .decReq ∧ s.phase = PH_DECODE ∧ s.dstate = D_REQ ∧ bound = s.cfg.tReq ∧ stamp = s.tMark ∨
        i = .decTurn ∧ s.phase = PH_DECODE ∧ s.dstate = D_TURN ∧ bound = s.cfg.tTurn ∧ stamp = s.tMark ∨
        i = .decBitd ∧ s.phase = PH_DECODE ∧ s.dstate = D_BITD ∧ bound = s.cfg.tSample ∧ stamp = s.tMark ∨
        i = .loopIdle ∧ s.phase = PH_IDLE ∧ s.dstate = D_IDLE ∧ bound = s.cfg.tIdle ∧ stamp = s.tIdle)
      (ht : ¬ (bound : Int) ≤ s.since stamp) : Move i s s
  /-- An awaited level is not there and the bound not reached: nothing changes (R129). -/
  | waits (s : State) (i : Instr) (want : Bool) (next : DState) (hp : s.phase = PH_DECODE)
      (hw : (i, want, next) = (.decAckl, true, D_ACKH) ∧ s.dstate = D_ACKL ∨
      (i, want, next) = (.decAckh, false, D_BITH) ∧ s.dstate = D_ACKH ∨
      (i, want, next) = (.decBith, true, D_BITD) ∧ s.dstate = D_BITH ∨
      (i, want, next) = (.decBitl, false, if s.bitcnt.toNat = s.cfg.nSlots then D_CHK else D_BITH) ∧
        s.dstate = D_BITL)
      (hl : s.inputs.sdaIn ≠ want) (ht : ¬ (s.cfg.tWait : Int) ≤ s.since s.tMark) : Move i s s

/-- An operation of MAIN run at its own place makes one of the moves. -/
theorem exec_move {i : Instr} {s t : State} (hd : decodeSeq s.seq = .ok i) (h : exec i s = .next t) :
    Move i s t := by
  have hp := State.place_of_seq hd
  cases i <;> simp only [place, Option.some.injEq, Prod.mk.injEq, reduceCtorEq] at hp <;>
    obtain ⟨h1, h2⟩ := hp <;> replace h1 := h1.symm <;> replace h2 := h2.symm
  case loopPoll =>
    obtain ⟨ha, rfl⟩ | ⟨ha, rfl⟩ := execLoopPoll_cases h
    · exact .pollCalls _ h1 h2 ha
    · exact .pollSkips _ h1 h2 ha
  case decReq =>
    obtain ⟨ha, rfl⟩ | ⟨ha, rfl⟩ := execDecReq_cases h
    · exact .releases _ h1 h2 ha
    · exact .delays _ _ _ _ (.inl ⟨rfl, h1, h2, rfl, rfl⟩) ha
  case decTurn =>
    obtain ⟨ha, hb, rfl⟩ | ⟨ha, hb, rfl⟩ | ⟨ha, rfl⟩ := execDecTurn_cases h
    · exact .noResponse _ h1 h2 ha hb
    · exact .acknowledged _ h1 h2 ha hb
    · exact .delays _ _ _ _ (.inr (.inl ⟨rfl, h1, h2, rfl, rfl⟩)) ha
  case decAckl =>
    obtain ⟨hl, rfl⟩ | ⟨hl, ht, rfl⟩ | ⟨hl, ht, rfl⟩ := execWait_cases (.inl rfl) h
    · exact .levelSeen _ _ _ _ h1 (.inl ⟨rfl, h2⟩) hl
    · exact .timesOut _ _ _ _ h1 (.inl ⟨rfl, h2⟩) hl ht
    · exact .waits _ _ _ _ h1 (.inl ⟨rfl, h2⟩) hl ht
  case decAckh =>
    obtain ⟨hl, rfl⟩ | ⟨hl, ht, rfl⟩ | ⟨hl, ht, rfl⟩ := execWait_cases (.inr (.inl rfl)) h
    · exact .levelSeen _ _ _ _ h1 (.inr (.inl ⟨rfl, h2⟩)) hl
    · exact .timesOut _ _ _ _ h1 (.inr (.inl ⟨rfl, h2⟩)) hl ht
    · exact .waits _ _ _ _ h1 (.inr (.inl ⟨rfl, h2⟩)) hl ht
  case decBith =>
    obtain ⟨hl, rfl⟩ | ⟨hl, ht, rfl⟩ | ⟨hl, ht, rfl⟩ := execWait_cases (.inr (.inr (.inl rfl))) h
    · exact .levelSeen _ _ _ _ h1 (.inr (.inr (.inl ⟨rfl, h2⟩))) hl
    · exact .timesOut _ _ _ _ h1 (.inr (.inr (.inl ⟨rfl, h2⟩))) hl ht
    · exact .waits _ _ _ _ h1 (.inr (.inr (.inl ⟨rfl, h2⟩))) hl ht
  case decBitd =>
    obtain ⟨ha, rfl⟩ | ⟨ha, rfl⟩ := execDecBitd_cases h
    · exact .samples _ h1 h2 ha
    · exact .delays _ _ _ _ (.inr (.inr (.inl ⟨rfl, h1, h2, rfl, rfl⟩))) ha
  case decBitl =>
    obtain ⟨hl, rfl⟩ | ⟨hl, ht, rfl⟩ | ⟨hl, ht, rfl⟩ := execWait_cases (.inr (.inr (.inr rfl))) h
    · exact .levelSeen _ _ _ _ h1 (.inr (.inr (.inr ⟨rfl, h2⟩))) hl
    · exact .timesOut _ _ _ _ h1 (.inr (.inr (.inr ⟨rfl, h2⟩))) hl ht
    · exact .waits _ _ _ _ h1 (.inr (.inr (.inr ⟨rfl, h2⟩))) hl ht
  case decChk =>
    obtain ⟨ha, rfl⟩ | ⟨ha, rfl⟩ := execDecChk_cases h
    · exact .validates _ h1 h2 ha
    · exact .rejects _ h1 h2 ha
  case loopRet =>
    obtain ⟨ha, rfl⟩ | ⟨ha, rfl⟩ := execLoopRet_cases h
    · exact .usesReading _ h1 h2 ha
    · exact .reportsFault _ h1 h2 ha
  case loopDrin =>
    obtain ⟨ha, rfl⟩ | ⟨ha, rfl⟩ := execLoopDrin_cases h
    · exact .drainsIn _ h1 h2 ha
    · exact .skipsIn _ h1 h2 ha
  case loopDrout =>
    obtain ⟨ha, rfl⟩ | ⟨ha, rfl⟩ := execLoopDrout_cases h
    · exact .drainsOut _ h1 h2 ha
    · exact .skipsOut _ h1 h2 ha
  case loopDrmot =>
    obtain ⟨ha, hb, rfl⟩ | ⟨ha, hb, rfl⟩ | ⟨ha, rfl⟩ := execLoopDrmot_cases h
    · exact .drainsMotionOn _ h1 h2 ha hb
    · exact .drainsMotionOff _ h1 h2 ha hb
    · exact .skipsMotion _ h1 h2 ha
  case loopCool =>
    obtain ⟨ha, hb, rfl⟩ | ⟨ha, rfl⟩ := execLoopCool_cases h
    · exact .coolsDown _ h1 h2 ha hb
    · exact .staysWarm _ h1 h2 ha
  case loopBtn =>
    obtain ⟨ha, hb, rfl⟩ | ⟨ha, hb, rfl⟩ | ⟨ha, rfl⟩ := execLoopBtn_cases h
    · exact .starts _ h1 h2 ha hb
    · exact .stops _ h1 h2 ha hb
    · exact .keepsMotor2 _ h1 h2 ha
  case loopIdle =>
    obtain ⟨ha, rfl⟩ | ⟨ha, rfl⟩ := execLoopIdle_cases h
    · exact .idleOver _ h1 h2 ha
    · exact .delays _ _ _ _ (.inr (.inr (.inr ⟨rfl, h1, h2, rfl, rfl⟩))) ha

/-- No move touches the parameters, the inputs or what ENV will do next (R44, R46). -/
theorem Move.env {i : Instr} {s t : State} (h : Move i s t) :
    t.cfg = s.cfg ∧ t.inputs = s.inputs ∧ t.script = s.script ∧ t.envDrawn = s.envDrawn := by
  cases h <;> first
    | exact ⟨rfl, rfl, rfl, rfl⟩
    | simp [State.itemEntered]

/-- What a step can answer as a next state: a move of MAIN on ENV's inputs, a flag set or nothing by CAPTURE, or
the release of reset. -/
theorem step_moves {s t : State} (h : step s = .next t) :
    (∃ now sda bs bp i, s.nextItem = .main now sda bs bp ∧ s.inputs.now ≤ now ∧
      Move i { s.takeItem with inputs := ⟨now, sda, bs, bp⟩ } t) ∨
    (∃ src edge, s.nextItem = .capture src edge ∧ (t = s.takeItem ∨ ∃ f, t = s.takeItem.setFlag f)) ∨
    (∃ n, s.nextItem = .reset n ∧ s.inputs.now ≤ n ∧ t = s.takeItem.releaseReset n) := by
  obtain ⟨now, sda, bs, bp, i, he, hle, hd, hx⟩ | ⟨src, edge, he, hx⟩ | hr := step_next h
  · refine .inl ⟨now, sda, bs, bp, i, he, hle, exec_move ?_ hx⟩
    simpa [State.seq] using hd
  · exact .inr (.inl ⟨src, edge, he, execCapture_cases (decodeEv_agent _) hx⟩)
  · exact .inr (.inr hr)

end Sys2Proof.Machine
end

