-- ==== Sys2Proof/Laws/PerInstr.lean ====
section
/-! SUPPORT. Statements about every operation as syntax, one lemma per constructor. -/

namespace Sys2Proof.Laws.RoundTrip

/-- The word of an operation is one of its agent's format, and decodes to it (R96, R100). -/
def Statement (i : Instr) : Prop :=
  decode (encode i) = .ok i ∧
    match encode i with
    | .seq _ => i.agent = .main
    | .ev _ => i.agent = .capture

theorem loopPoll : Statement .loopPoll := ⟨rfl, rfl⟩
theorem decReq : Statement .decReq := ⟨rfl, rfl⟩
theorem decTurn : Statement .decTurn := ⟨rfl, rfl⟩
theorem decAckl : Statement .decAckl := ⟨rfl, rfl⟩
theorem decAckh : Statement .decAckh := ⟨rfl, rfl⟩
theorem decBith : Statement .decBith := ⟨rfl, rfl⟩
theorem decBitd : Statement .decBitd := ⟨rfl, rfl⟩
theorem decBitl : Statement .decBitl := ⟨rfl, rfl⟩
theorem decChk : Statement .decChk := ⟨rfl, rfl⟩
theorem loopRet : Statement .loopRet := ⟨rfl, rfl⟩
theorem loopDrin : Statement .loopDrin := ⟨rfl, rfl⟩
theorem loopDrout : Statement .loopDrout := ⟨rfl, rfl⟩
theorem loopDrmot : Statement .loopDrmot := ⟨rfl, rfl⟩
theorem loopCool : Statement .loopCool := ⟨rfl, rfl⟩
theorem loopBtn : Statement .loopBtn := ⟨rfl, rfl⟩
theorem loopIdle : Statement .loopIdle := ⟨rfl, rfl⟩
theorem evtIn : Statement .evtIn := ⟨rfl, rfl⟩
theorem evtIgnInRise : Statement .evtIgnInRise := ⟨rfl, rfl⟩
theorem evtOut : Statement .evtOut := ⟨rfl, rfl⟩
theorem evtIgnOutRise : Statement .evtIgnOutRise := ⟨rfl, rfl⟩
theorem evtIgnMotFall : Statement .evtIgnMotFall := ⟨rfl, rfl⟩
theorem evtMot : Statement .evtMot := ⟨rfl, rfl⟩
theorem evtIgnOtherFall : Statement .evtIgnOtherFall := ⟨rfl, rfl⟩
theorem evtIgnOtherRise : Statement .evtIgnOtherRise := ⟨rfl, rfl⟩

end Sys2Proof.Laws.RoundTrip
end

