-- ==== Sys2Proof/Tests/Slice0.lean ====
section
/-! SUPPORT. The model's own tests: words written out from R96 and R100, ill-formed inputs that the checks refuse,
the vectors of `95_test_vectors.md`, and for every statement with hypotheses a state that meets them. -/

namespace Sys2Proof.Tests

open Sys2Proof.Machine

/-! ## Helpers -/

/-- A state at a place of the sequence, on the nominal instance, with these inputs. -/
def at_ (p : Phase) (d : DState) (now : Nat) (sda : Bool) : State :=
  { State.reset with phase := p, dstate := d, inputs := ⟨now, sda, false, false⟩ }

/-- The next state, if there is one. -/
def after (o : Host.Outcome State Fault Refusal) : Option State :=
  match o with
  | .next t => some t
  | _ => none

/-- What a decoder row of V-D-DEC compares: `dstate`, `t_mark`, `bitcnt`, `frame`, `sda_oe`, `d_err`. -/
def decRow (i : Instr) (s : State) : Option ((DState × Nat × BitVec 6) × Frame × Bool × ErrCode) :=
  (after (exec i s)).map fun t => ((t.dstate, t.tMark, t.bitcnt), t.frame, t.sdaOe, t.dErr)

/-- A check made at each of the first `n` states of a run. -/
def along (check : State → Bool) : Nat → State → Bool
  | 0, _ => true
  | n + 1, s =>
    check s && match step s with
      | .next t => along check n t
      | _ => false

theorem along_sound {check : State → Bool} {n : Nat} {s : State} (h : along check n s = true) {k : Nat} {u : State}
    (hk : k < n) (hu : Sys2Proof.core.run k s = .next u) : check u = true := by
  induction n generalizing s k with
  | zero => omega
  | succ n ih =>
    rw [along, Bool.and_eq_true] at h
    cases k with
    | zero => cases hu; exact h.1
    | succ k =>
      rw [run_succ] at hu
      split at hu
      · rename_i t ht
        rw [ht] at h
        exact ih h.2 (by omega) hu
      · cases hu
      · cases hu

/-! ## Encodings, from the tables of R96 and R100 -/

theorem test_seq_words :
    [0b0000000#7, 0b0010001#7, 0b0010010#7, 0b0010011#7, 0b0010100#7, 0b0010101#7, 0b0010110#7, 0b0010111#7,
      0b0011000#7, 0b0011001#7, 0b0100000#7, 0b0110000#7, 0b1000000#7, 0b1010000#7, 0b1100000#7,
      0b1110000#7].map (fun w => (decodeSeq w).toOption) =
    [Instr.loopPoll, .decReq, .decTurn, .decAckl, .decAckh, .decBith, .decBitd, .decBitl, .decChk, .loopRet,
      .loopDrin, .loopDrout, .loopDrmot, .loopCool, .loopBtn, .loopIdle].map some := by decide

theorem test_ev_words :
    [0b000#3, 0b001#3, 0b010#3, 0b011#3, 0b100#3, 0b101#3, 0b110#3, 0b111#3].map decodeEv =
    [.evtIn, .evtIgnInRise, .evtOut, .evtIgnOutRise, .evtIgnMotFall, .evtMot, .evtIgnOtherFall,
      .evtIgnOtherRise] := by decide

theorem test_event_words : evWord .transitOut .falling = 0b010#3 ∧ evWord .motion .rising = 0b101#3 := by decide

/-- R98: 112 of the 128 words are reserved. -/
theorem test_reserved_count :
    ((List.range 128).filter fun n => !(decodeSeq (BitVec.ofNat 7 n)).isOk).length = 112 := by decide +kernel

/-- The rows of the operation map as the host asks for them (entry 11). -/
theorem test_table_words :
    decodeTableWord 8 0x00 = some .loopPoll ∧ decodeTableWord 8 0x16 = some .decBitd ∧
    decodeTableWord 8 0x70 = some .loopIdle ∧ decodeTableWord 8 0x05 = some .evtMot ∧
    decodeTableWord 3 0 = some .evtIn ∧ decodeTableWord 8 0x11 = some .decReq ∧
    decodeTableWord 8 0x10 = none ∧ decodeTableWord 8 0x80 = none := by decide

/-- `withFetchWord` and the next step: DEC.CHK on reset's frame of zeros; EVT.MOT. -/
theorem test_fetch :
    (after (step (State.reset.withFetchWord 8 0x18))).map (fun t => (t.dstate, t.dErr)) = some (D_DONE, .none) ∧
    (after (step (State.reset.withFetchWord 8 0x05))).map (fun t => (t.fMotion, t.seq)) = some (true, 0#7) := by
  decide

/-! ## Ill-formed inputs are refused, one for each check -/

theorem smoke_nominal : Config.nominal.wf = true := by decide
theorem smoke_tw : ({ Config.nominal with tw := 32 } : Config).wf = false := by decide
theorem smoke_cw : ({ Config.nominal with cw := 0 } : Config).wf = false := by decide
theorem smoke_wait : ({ Config.nominal with tWait := 0 } : Config).wf = false := by decide
theorem smoke_slots : ({ Config.nominal with nSlots := 39 } : Config).wf = false := by decide
theorem smoke_bytes : ({ Config.nominal with nBytes := 4 } : Config).wf = false := by decide
theorem smoke_duty_full : ({ Config.nominal with dutyFull := 101 } : Config).wf = false := by decide
theorem smoke_duty_zero : ({ Config.nominal with dutyFull := 0 } : Config).wf = false := by decide
theorem smoke_duty_m2 : ({ Config.nominal with dutyM2On := 101 } : Config).wf = false := by decide
theorem smoke_script :
    scriptOk 0 [.main 5 true false false, .capture .motion .rising, .main 5 true false false] = true ∧
    scriptOk 0 [.main 5 true false false, .main 4 true false false] = false ∧
    scriptOk 6 [.reset 5] = false := by decide

/-! ## The decoder's steps (V-D-DEC, V-D-CHK) -/

/-- Rows 1, 2. -/
theorem test_decReq :
    decRow .decReq { at_ PH_DECODE D_REQ 1017999 true with tMark := 1000000, sdaOe := true } =
      some ((D_REQ, 1000000, 0), 0, true, .none) ∧
    decRow .decReq { at_ PH_DECODE D_REQ 1018000 true with tMark := 1000000, sdaOe := true } =
      some ((D_TURN, 1018000, 0), 0, false, .none) := by decide

/-- Rows 4, 6. -/
theorem test_decTurn :
    decRow .decTurn { at_ PH_DECODE D_TURN 1018000 false with tMark := 1018000 } =
      some ((D_ACKL, 1018000, 0), 0, false, .none) ∧
    decRow .decTurn { at_ PH_DECODE D_TURN 1018010 true with tMark := 1018000 } =
      some ((D_DONE, 1018000, 0), 0, false, .noResponse) := by decide

/-- Rows 9, 10, 11: one short of the bound, at it, and the level found late. -/
theorem test_decAckl :
    decRow .decAckl { at_ PH_DECODE D_ACKL 1019039 false with tMark := 1018040 } =
      some ((D_ACKL, 1018040, 0), 0, false, .none) ∧
    decRow .decAckl { at_ PH_DECODE D_ACKL 1019040 false with tMark := 1018040 } =
      some ((D_DONE, 1018040, 0), 0, false, .timeout) ∧
    decRow .decAckl { at_ PH_DECODE D_ACKL 1030000 true with tMark := 1018040 } =
      some ((D_ACKH, 1030000, 0), 0, false, .none) := by refine ⟨?_, ?_, ?_⟩ <;> decide

/-- Rows 13, 14. -/
theorem test_decAckh :
    decRow .decAckh { at_ PH_DECODE D_ACKH 1018190 false with tMark := 1018110 } =
      some ((D_BITH, 1018190, 0), 0, false, .none) ∧
    decRow .decAckh { at_ PH_DECODE D_ACKH 1019110 true with tMark := 1018110 } =
      some ((D_DONE, 1018110, 0), 0, false, .timeout) := by decide

/-- Rows 15, 16. -/
theorem test_decBith :
    decRow .decBith { at_ PH_DECODE D_BITH 1018230 false with tMark := 1018190 } =
      some ((D_BITH, 1018190, 0), 0, false, .none) ∧
    decRow .decBith { at_ PH_DECODE D_BITH 1018240 true with tMark := 1018190 } =
      some ((D_BITD, 1018240, 0), 0, false, .none) := by decide

/-- Rows 18, 22. -/
theorem test_decBitd :
    decRow .decBitd { at_ PH_DECODE D_BITD 1018267 true with tMark := 1018240 } =
      some ((D_BITD, 1018240, 0), 0, false, .none) ∧
    decRow .decBitd
      { at_ PH_DECODE D_BITD 1018270 true with tMark := 1018240, bitcnt := 39#6, frame := 0x190C800C82#40 } =
      some ((D_BITL, 1018270, 40#6), 0x3219001905#40, false, .none) := by decide

/-- Rows 24, 25. -/
theorem test_decBitl :
    decRow .decBitl { at_ PH_DECODE D_BITL 1018320 false with tMark := 1018270, bitcnt := 1#6, frame := 1#40 } =
      some ((D_BITH, 1018320, 1#6), 1#40, false, .none) ∧
    decRow .decBitl
      { at_ PH_DECODE D_BITL 1018320 false with tMark := 1018270, bitcnt := 40#6, frame := 0x320019004B#40 } =
      some ((D_CHK, 1018320, 40#6), 0x320019004B#40, false, .none) := by decide

/-- V-D-CHK: result code, humidity and temperature for a frame, from `0xAA`, `0xBB`. -/
def chkRow (f : Frame) : Option (ErrCode × Byte × Byte) :=
  (after (exec .decChk { at_ PH_DECODE D_CHK 0 false with frame := f, dHum := 0xAA#8, dTemp := 0xBB#8 })).map
    fun t => (t.dErr, t.dHum, t.dTemp)

theorem test_decChk_good :
    chkRow 0x320019004B#40 = some (.none, 50#8, 25#8) ∧ chkRow 0xFFFFFFFFFC#40 = some (.none, 255#8, 255#8) ∧
    chkRow 0x3201190551#40 = some (.none, 50#8, 25#8) := by decide

theorem test_decChk_bad :
    chkRow 0xFFFFFFFFFF#40 = some (.checksum, 170#8, 187#8) ∧
    chkRow 0x4B00190032#40 = some (.checksum, 170#8, 187#8) := by decide

/-! ## The control loop's steps (V-D-LOOP) -/

/-- One short, exactly, and across the clock's wrap. -/
theorem test_loopPoll :
    (after (exec .loopPoll (at_ PH_POLL D_IDLE 999999 true))).map (fun t => (t.seq, t.sdaOe)) =
      some (0b0100000#7, false) ∧
    (after (exec .loopPoll (at_ PH_POLL D_IDLE 1000000 true))).map (fun t => (t.seq, t.sdaOe, t.tMark)) =
      some (0b0010001#7, true, 1000000) ∧
    (after (exec .loopPoll { at_ PH_POLL D_IDLE (2 ^ 64 + 999990) true with tPoll := 18446744073709551606 })).map
      (fun t => (t.seq, t.tMark)) = some (0b0010001#7, 999990) := by decide

/-- LOOP.RET at 3070000: Motor 1, the record, `last_err`. -/
def retRow (e : ErrCode) (temp hum : Byte) (duty : BitVec 7) (en : Bool) :
    Option ((BitVec 7 × Bool × List Report) × ErrCode × Nat × SeqWord) :=
  (after (exec .loopRet
    { at_ PH_DECODE D_DONE 3070000 true with dErr := e, dTemp := temp, dHum := hum, m1Duty := duty, m1En := en })).map
    fun t => ((t.m1Duty, t.m1En, t.report), t.lastErr, t.tPoll, t.seq)

theorem test_loopRet_reading :
    retRow .none 30#8 60#8 100#7 true = some ((0#7, false, [⟨.reading, 30, 60⟩]), .none, 3070000, 0b0100000#7) ∧
    retRow .none 31#8 60#8 0#7 false = some ((100#7, true, [⟨.reading, 31, 60⟩]), .none, 3070000, 0b0100000#7) := by
  constructor <;> decide

theorem test_loopRet_fault :
    retRow .timeout 25#8 50#8 100#7 true =
      some ((100#7, true, [⟨.sensorError, 0, 0⟩]), .timeout, 3070000, 0b0100000#7) := by decide

/-- `CW` 32 below the top, `CW` 4 at the top. -/
theorem test_loopDrin :
    (after (exec .loopDrin { at_ PH_DRAIN_IN D_IDLE 0 true with fIn := true, inv := 4294967294 })).map
      (fun t => (t.fIn, t.inv, t.invOvf, t.report)) =
      some (false, 4294967295, false, [⟨.entered, 4294967295, 0⟩]) ∧
    (after (exec .loopDrin
      { at_ PH_DRAIN_IN D_IDLE 0 true with cfg := { Config.nominal with cw := 4 }, fIn := true, inv := 15 })).map
      (fun t => (t.fIn, t.inv, t.invOvf, t.report)) = some (false, 15, true, [⟨.entered, 15, 0⟩]) := by decide

/-- At count 0 and above. -/
theorem test_loopDrout :
    (after (exec .loopDrout { at_ PH_DRAIN_OUT D_IDLE 0 true with fOut := true, inv := 0 })).map
      (fun t => (t.fOut, t.inv, t.report)) = some (false, 0, [⟨.removed, 0, 0⟩]) ∧
    (after (exec .loopDrout { at_ PH_DRAIN_OUT D_IDLE 0 true with fOut := true, inv := 4 })).map
      (fun t => (t.fOut, t.inv, t.report)) = some (false, 3, [⟨.removed, 3, 0⟩]) := by decide

/-- From off, and the retrigger from on. -/
theorem test_loopDrmot :
    (after (exec .loopDrmot { at_ PH_DRAIN_MOTION D_IDLE 2000000 true with fMotion := true, tMotion := 123 })).map
      (fun t => (t.indOn, t.tMotion, t.report)) = some (true, 2000000, [⟨.motionOn, 0, 0⟩]) ∧
    (after (exec .loopDrmot
      { at_ PH_DRAIN_MOTION D_IDLE 6990000 true with fMotion := true, indOn := true, tMotion := 2000000 })).map
      (fun t => (t.indOn, t.tMotion, t.report)) = some (true, 6990000, []) := by decide

/-- 4999999 stays on, 5000000 goes off, a pending motion flag notwithstanding. -/
theorem test_loopCool :
    (after (exec .loopCool { at_ PH_COOLDOWN D_IDLE 6999999 true with indOn := true, tMotion := 2000000 })).map
      (fun t => (t.indOn, t.report)) = some (true, []) ∧
    (after (exec .loopCool
      { at_ PH_COOLDOWN D_IDLE 7000000 true with indOn := true, tMotion := 2000000, fMotion := true })).map
      (fun t => (t.indOn, t.fMotion, t.report)) = some (false, true, [⟨.indOff, 0, 0⟩]) := by decide

/-- LOOP.BTN at 42000: `m2_on`, the Motor 2 outputs, the record, the stamp. -/
def btnRow (m2 bs bp : Bool) : Option ((Bool × BitVec 7 × Bool) × List Report × Nat) :=
  (after (exec .loopBtn { at_ PH_BUTTONS D_IDLE 0 true with m2On := m2, inputs := ⟨42000, true, bs, bp⟩ })).map
    fun t => ((t.m2On, t.outputs.m2Duty, t.outputs.m2En), t.report, t.tIdle)

/-- V-S6 and the rows with both buttons. -/
theorem test_loopBtn :
    btnRow false true true = some ((true, 7#7, true), [⟨.m2On, 0, 0⟩], 42000) ∧
    btnRow true true true = some ((false, 0#7, false), [], 42000) ∧
    btnRow true true false = some ((true, 7#7, true), [], 42000) ∧
    btnRow false false true = some ((false, 0#7, false), [], 42000) := by refine ⟨?_, ?_, ?_, ?_⟩ <;> decide

theorem test_loopIdle :
    (after (exec .loopIdle { at_ PH_IDLE D_IDLE 51999 true with tIdle := 42000, fIn := true })).map State.seq =
      some 0b1110000#7 ∧
    (after (exec .loopIdle { at_ PH_IDLE D_IDLE 52000 true with tIdle := 42000, fIn := true })).map State.seq =
      some 0b0000000#7 := by decide

/-! ## Events, Motor 1, time, rendering -/

/-- V-D-EVT: the three flags after each of the eight events, from (0, 1, 0). -/
theorem test_events :
    ([.evtIn, .evtIgnInRise, .evtOut, .evtIgnOutRise, .evtIgnMotFall, .evtMot, .evtIgnOtherFall,
      .evtIgnOtherRise].map fun i =>
        (after (exec i { State.reset with fOut := true })).map fun t => (t.fIn, t.fOut, t.fMotion)) =
    [(true, true, false), (false, true, false), (false, true, false), (false, true, false), (false, true, false),
      (false, true, true), (false, true, false), (false, true, false)].map some := by decide

/-- V-D-M1, the boundary rows. -/
theorem test_m1 :
    m1Command Config.nominal 30#8 60#8 = ⟨0#7, false⟩ ∧ m1Command Config.nominal 30#8 61#8 = ⟨100#7, true⟩ ∧
    m1Command Config.nominal 128#8 0#8 = ⟨100#7, true⟩ := by decide

/-- R222: Motor 2's table. -/
theorem test_m2 :
    m2Next false false true = false ∧ m2Next false true true = true ∧ m2Next true true true = false ∧
    m2Next true true false = true ∧ m2Next true false true = false := by decide

/-- V-D-ELAPSED. -/
theorem test_elapsed :
    elapsedMod 64 1018000 1000000 = 18000 ∧ elapsedMod 64 5 18446744073709551606 = 15 ∧
    elapsedMod 32 704 4294967000 = 1000 ∧ elapsedMod 16 464 65000 = 1000 ∧ elapsedMod 16 0 0 = 0 := by decide

/-- R104. -/
theorem test_line :
    Report.line ⟨.reading, 25, 50⟩ = "Temp: 25C  Humidity: 50%" ∧
    Report.line ⟨.entered, 2, 0⟩ = "Product entered. Inventory: 2" := by decide

/-- V-D-INV, four rows (the third and fourth where `max(0, N - M)` fails). -/
theorem test_inventory :
    foldEvents 0 [.entered, .entered, .removed] = 1 ∧ foldEvents 0 [.entered, .removed] = 0 ∧
    foldEvents 0 [.removed, .entered, .entered] = 2 ∧ foldEvents 0 [.removed, .entered] = 1 := by decide

/-! ## Witnesses: for each statement with hypotheses, a state and operands that meet them -/

/-- A state whose next item is this one. -/
def feed (s : State) (e : EnvStep) : State := { s with script := [e] }

/-- A MAIN item with no button pressed. -/
def tick (now : Nat) (sda : Bool) : EnvStep := .main now sda false false

/-- A good state inside a read: the line is driven and the request pulse is over at the next step. -/
def requesting : State :=
  feed { at_ PH_DECODE D_REQ 1000000 true with tMark := 1000000, sdaOe := true } (tick 1018000 true)

/-- Operation `i` answers a next state from `s` at which `p` holds. -/
def reaches (i : Instr) (s : State) (p : State → Bool) : Bool := ((after (exec i s)).map p).getD false

/-- The same of a step. -/
def stepReaches (s : State) (p : State → Bool) : Bool := ((after (step s)).map p).getD false

theorem stepReaches_sound {s : State} {p : State → Bool} (h : stepReaches s p = true) :
    ∃ t, step s = .next t ∧ p t = true := by
  unfold stepReaches at h
  cases hs : step s with
  | next t => rw [hs] at h; exact ⟨t, rfl, h⟩
  | fault f => rw [hs] at h; cases h
  | refused r => rw [hs] at h; cases h

theorem reaches_sound {i : Instr} {s : State} {p : State → Bool} (h : reaches i s p = true) :
    ∃ t, exec i s = .next t ∧ p t = true := by
  unfold reaches at h
  cases hs : exec i s with
  | next t => rw [hs] at h; exact ⟨t, rfl, h⟩
  | fault f => rw [hs] at h; cases h
  | refused r => rw [hs] at h; cases h

theorem witness_DecodeThenEncode : decode (.seq 0b0010110#7) = .ok .decBitd ∧ decode (.ev 0b111#3) = .ok .evtIgnOtherRise := by
  decide

theorem witness_EventPairsDispatch :
    (EvtSrc.transitIn, EvtEdge.rising) ≠ (.transitIn, .falling) ∧
    (EvtSrc.transitIn, EvtEdge.rising) ≠ (.transitOut, .falling) ∧
    (EvtSrc.transitIn, EvtEdge.rising) ≠ (.motion, .rising) := by decide

theorem witness_StepRunsMainOperation :
    requesting.nextItem = .main 1018000 true false false ∧ requesting.inputs.now ≤ 1018000 ∧
    decode (.seq requesting.seq) = .ok .decReq := by decide

theorem witness_StepRunsCaptureOperation :
    (feed State.reset (.capture .motion .rising)).nextItem = .capture .motion .rising ∧
    decode (.ev (evWord .motion .rising)) = .ok .evtMot := by decide

/-- The reserved words next to the legal ones: `001 0000`, `001 1010`, `000 0001`. -/
theorem witness_ReservedSeqFaults :
    (∀ w ∈ [(PH_DECODE, D_IDLE), (PH_DECODE, 0b1010#4), (PH_POLL, D_REQ)],
      (feed (at_ w.1 w.2 5 true) (tick 5 true)).nextItem = .main 5 true false false ∧
      ¬ (feed (at_ w.1 w.2 5 true) (tick 5 true)).seqLegal) := by decide +kernel

theorem witness_ClockBackwardsRefused :
    (feed (at_ PH_POLL D_IDLE 10 true) (tick 9 true)).nextItem.time? = some 9 ∧
    (feed (at_ PH_POLL D_IDLE 10 true) (.reset 9)).nextItem.time? = some 9 ∧
    9 < (at_ PH_POLL D_IDLE 10 true).inputs.now := by decide

theorem witness_ResetReleasesEverything :
    ({ requesting with script := [.reset 1000000] } : State).nextItem = .reset 1000000 ∧
    requesting.inputs.now ≤ 1000000 := by decide

/-- Each of the three waits, with the level there, and not there at the bound and before it. -/
theorem witness_BoundedWaitResults :
    ∀ w ∈ [(Instr.decAckl, true, D_ACKH), (.decAckh, false, D_BITH), (.decBith, true, D_BITD)],
      reaches w.1 (at_ PH_DECODE D_ACKL 1000 w.2.1) (fun t => t.dstate == w.2.2) = true ∧
      reaches w.1 (at_ PH_DECODE D_ACKL 1000 (!w.2.1)) (fun t => t.dErr == .timeout) = true ∧
      reaches w.1 (at_ PH_DECODE D_ACKL 999 (!w.2.1)) (fun t => t.dstate == D_ACKL) = true := by decide

/-- The bytes of `FFFFFFFFFC`, at the top of their range, and of `320019004C`, whose checksum is off by one. -/
theorem witness_DecChkResult :
    (0xFFFFFFFFFC#40).toNat = (((255 * 256 + 255) * 256 + 255) * 256 + 255) * 256 + 252 ∧
    252 = (255 + 255 + 255 + 255) % 256 ∧
    (0x320019004C#40).toNat = (((50 * 256 + 0) * 256 + 25) * 256 + 0) * 256 + 76 ∧
    76 ≠ (50 + 0 + 25 + 0) % 256 := by decide

/-- The three clauses at the thresholds: 31 and 60, 30 and 60, and a failed read. -/
theorem witness_LoopRetResult :
    (retRow .none 31#8 60#8 0#7 false).isSome ∧ Config.nominal.tempThresh < (31#8).toNat ∧
    (retRow .none 30#8 60#8 0#7 false).isSome ∧ (60#8).toNat ≤ Config.nominal.humThresh ∧
    (30#8).toNat ≤ Config.nominal.tempThresh ∧ ErrCode.timeout ≠ .none := by decide

/-- A drained item at the top count, below it, and none; the last count drained, a count drained at 0. -/
theorem witness_LoopDrinResult :
    (2 ^ 32 - 1 < 2 ^ Config.nominal.cw) ∧ 2 ^ 32 - 1 = 2 ^ Config.nominal.cw - 1 ∧
    2 ^ 32 - 2 ≠ 2 ^ Config.nominal.cw - 1 ∧ State.reset.fIn = false ∧
    ({ State.reset with fIn := true, inv := 2 ^ 32 - 1 } : State).fIn = true := by decide

theorem witness_LoopDroutResult :
    State.reset.fOut = false ∧ ({ State.reset with fOut := true } : State).inv = 0 ∧
    ({ State.reset with fOut := true, inv := 1 } : State).inv = 0 + 1 := by decide

theorem witness_LoopDrmotResult :
    State.reset.fMotion = false ∧ ({ State.reset with fMotion := true } : State).indOn = false ∧
    ({ State.reset with fMotion := true, indOn := true } : State).indOn = true := by decide

theorem witness_LoopBtnResult :
    (btnRow false true true).isSome ∧ (btnRow false false true).isSome ∧ (btnRow true true true).isSome ∧
    (btnRow true true false).isSome := by decide

theorem witness_IgnoredEventResults :
    [0b001#3, 0b011#3, 0b100#3, 0b110#3, 0b111#3].map (fun w => (decode (.ev w)).toOption) =
      [Instr.evtIgnInRise, .evtIgnOutRise, .evtIgnMotFall, .evtIgnOtherFall, .evtIgnOtherRise].map some := by decide

/-- At the longest interval a 33-bit clock tells apart, over its wrap. -/
theorem witness_ElapsedIsTrueTime :
    7 ≤ 7 + (2 ^ 33 - 1) ∧ 7 + (2 ^ 33 - 1) - 7 < 2 ^ ({ Config.nominal with tw := 33 } : Config).tw := by decide

theorem witness_FrameAssembly : (List.replicate 39 false ++ [true]).length = 40 := by decide

theorem witness_ResetIsGood : Config.nominal.wf = true := by decide

theorem witness_SeqLegalKeptByStep : requesting.seqLegal ∧ ∃ t, step requesting = .next t ∧ t.dstate == D_TURN :=
  ⟨by decide, stepReaches_sound (by decide)⟩

theorem witness_LineOwnershipKeptByStep :
    requesting.lineOwned ∧ ∃ t, step requesting = .next t ∧ (!t.sdaOe) = true :=
  ⟨by decide, stepReaches_sound (by decide)⟩

theorem witness_WidthsHeldByStep :
    requesting.widthsHeld ∧ ∃ t, step requesting = .next t ∧ t.tMark == 1018000 :=
  ⟨by decide, stepReaches_sound (by decide)⟩

theorem witness_GoodKeptByStep : requesting.good ∧ ∃ t, step requesting = .next t ∧ t.dstate == D_TURN :=
  ⟨by decide, stepReaches_sound (by decide)⟩

theorem witness_ClockForwardParametersFixed : ∃ t, step requesting = .next t ∧ t.inputs.now == 1018000 :=
  stepReaches_sound (by decide)

/-- LOOP.DRIN at the top count: from the fault clear to set, and set already. -/
theorem witness_OverflowIsSticky :
    (∃ t, exec .loopDrin { State.reset with fIn := true, inv := 2 ^ 32 - 1 } = .next t ∧ t.invOvf = true) ∧
    (∃ t, exec .loopDrin { State.reset with fIn := true, inv := 0, invOvf := true } = .next t ∧ t.invOvf = true) :=
  ⟨reaches_sound (by decide), reaches_sound (by decide)⟩

/-- A state on which every writer's change shows, whatever the place. -/
def ripe (p : Phase) (d : DState) (sda : Bool) : State :=
  { State.reset with
    phase := p, dstate := d, frame := 0x3D001F005C#40, tMark := 5, dErr := .timeout, dHum := 1#8, dTemp := 1#8,
    fIn := true, fOut := true, fMotion := true, inv := 5, indOn := false, bitcnt := 3#6,
    inputs := ⟨6000000, sda, true, true⟩ }

theorem witness_SingleWriters :
    reaches .decBitd (ripe PH_DECODE D_BITD true) (fun t => t.frame != (ripe 0 0 true).frame && t.bitcnt != 3#6 &&
      t.tMark != 5) = true ∧
    reaches .decTurn (ripe PH_DECODE D_TURN true) (fun t => t.dErr != .timeout) = true ∧
    reaches .decChk (ripe PH_DECODE D_CHK true) (fun t => t.dHum != 1#8 && t.dTemp != 1#8) = true ∧
    reaches .loopPoll (ripe PH_POLL D_IDLE true) (fun t => t.sdaOe && t.seq != 0#7) = true ∧
    (ripe PH_POLL D_IDLE true).lineOwned ∧ decodeSeq (ripe PH_POLL D_IDLE true).seq = .ok .loopPoll ∧
    reaches .loopRet { ripe PH_DECODE D_DONE true with dErr := .none, dHum := 61#8, lastErr := .timeout }
      (fun t => t.tPoll != 0 && t.lastErr != .timeout && t.m1Duty != 0#7 && t.m1En) = true ∧
    reaches .loopBtn (ripe PH_BUTTONS D_IDLE true) (fun t => t.tIdle != 0 && t.m2On) = true ∧
    reaches .loopDrin (ripe PH_DRAIN_IN D_IDLE true) (fun t => !t.fIn && t.inv != 5) = true ∧
    reaches .loopDrin { ripe PH_DRAIN_IN D_IDLE true with inv := 2 ^ 32 - 1 } State.invOvf = true ∧
    reaches .loopDrout (ripe PH_DRAIN_OUT D_IDLE true) (fun t => !t.fOut && t.inv != 5) = true ∧
    reaches .loopDrmot (ripe PH_DRAIN_MOTION D_IDLE true) (fun t => !t.fMotion && t.indOn && t.tMotion != 0) =
      true := by refine ⟨?_, ?_, ?_, ?_, ?_, ?_, ?_, ?_, ?_, ?_, ?_, ?_⟩ <;> decide

theorem witness_CaptureOnlySetsOneFlag : Instr.evtMot.agent = .capture ∧ Instr.evtIgnInRise.agent = .capture := by
  decide

theorem witness_MainOnlyClearsFlags :
    Instr.loopDrin.agent = .main ∧
    (∃ t, exec .loopDrin (ripe PH_DRAIN_IN D_IDLE true) = .next t ∧ (!t.fIn && t.fOut && t.fMotion) = true) ∧
    (∃ t, exec .loopDrout (ripe PH_DRAIN_OUT D_IDLE true) = .next t ∧ (t.fIn && !t.fOut && t.fMotion) = true) ∧
    (∃ t, exec .loopDrmot (ripe PH_DRAIN_MOTION D_IDLE true) = .next t ∧ (t.fIn && t.fOut && !t.fMotion) = true) :=
  ⟨by decide, reaches_sound (by decide), reaches_sound (by decide), reaches_sound (by decide)⟩

theorem witness_CaptureOperationsCommute : Instr.evtIn.agent = .capture ∧ Instr.evtOut.agent = .capture := by decide

theorem witness_CaptureAndDecoderCommute :
    Instr.evtIn.agent = .capture ∧
    Instr.decBitd ∈ [Instr.decReq, .decTurn, .decAckl, .decAckh, .decBith, .decBitd, .decBitl, .decChk] := by decide

/-- V-D-ORDER: the edge before the drain, and after it. -/
theorem test_order :
    (after (exec .evtIn { at_ PH_DRAIN_IN D_IDLE 0 true with inv := 3 })).bind (fun a =>
      (after (exec .loopDrin a)).map fun b => (b.fIn, b.inv, b.report)) = some (false, 4, [⟨.entered, 4, 0⟩]) ∧
    (after (exec .loopDrin { at_ PH_DRAIN_IN D_IDLE 0 true with inv := 3 })).bind (fun a =>
      (after (exec .evtIn a)).map fun b => (b.fIn, b.inv, b.report)) = some (true, 3, []) := by decide

/-- The three flags, clear and set; the last count below the top and the top; the indicator off and on. -/
theorem witness_EdgeNeverLostAtDrain :
    (∀ f ∈ [EdgeFlag.transitIn, .transitOut, .motion],
      State.reset.flag f = false ∧ (State.reset.setFlag f).flag f = true) ∧
    ({ State.reset with inv := 2 ^ 32 - 2 } : State).inv < 2 ^ State.reset.cfg.cw - 1 ∧
    ({ State.reset with inv := 2 ^ 32 - 1 } : State).inv = 2 ^ State.reset.cfg.cw - 1 ∧
    State.reset.indOn = false ∧ ({ State.reset with indOn := true } : State).indOn = true := by decide

theorem witness_EdgesCoalesce : ∀ i ∈ [Instr.evtIn, .evtIn, .evtMot, .evtIgnOutRise], i.agent = .capture := by decide

theorem witness_AtMostOneReportPerStep :
    (∃ t, step (feed { at_ PH_COOLDOWN D_IDLE 5000000 true with indOn := true } (tick 5000000 true)) = .next t ∧
      t.report == [⟨.indOff, 0, 0⟩]) ∧
    ∀ n, (feed { at_ PH_COOLDOWN D_IDLE 5000000 true with indOn := true } (tick 5000000 true)).nextItem ≠ .reset n :=
  ⟨stepReaches_sound (by decide), fun _ h => by cases h⟩

theorem witness_SuccessorsFollowTheOrder :
    decode (.seq requesting.seq) = .ok .decReq ∧ ∃ t, exec .decReq requesting = .next t ∧ t.dstate == D_REQ :=
  ⟨by decide, reaches_sound (by decide)⟩

/-- The four waits exactly at the bound. -/
theorem witness_WaitsEndAtTheirBound :
    ∀ w ∈ [(Instr.decAckl, D_ACKL), (.decAckh, D_ACKH), (.decBith, D_BITH), (.decBitl, D_BITL)],
      decode (.seq (at_ PH_DECODE w.2 1000 true).seq) = .ok w.1 ∧
      ((at_ PH_DECODE w.2 1000 true).cfg.tWait : Int) ≤ (at_ PH_DECODE w.2 1000 true).since 0 := by decide

/-- LOOP.RET on a good result of 61 percent, DEC.CHK on a good frame. -/
theorem witness_FaultsFreezeMotor1 :
    (∃ t, step (feed { at_ PH_DECODE D_DONE 0 true with dHum := 61#8 } (tick 0 true)) = .next t ∧
      (t.m1Duty != 0#7 && t.m1En) = true) ∧
    (∃ t, step (feed { at_ PH_DECODE D_CHK 0 true with frame := 0x320019004B#40 } (tick 0 true)) = .next t ∧
      (t.dHum != 0#8) = true) ∧
    ∀ n, (feed { at_ PH_DECODE D_DONE 0 true with dHum := 61#8 } (tick 0 true)).nextItem ≠ .reset n :=
  ⟨stepReaches_sound (by decide), stepReaches_sound (by decide), fun _ h => by cases h⟩

theorem witness_ReadsOncePerPeriod :
    ¬ (feed State.reset (tick 1000000 true)).inRead ∧
    ∃ t, step (feed State.reset (tick 1000000 true)) = .next t ∧ t.phase == PH_DECODE :=
  ⟨by decide, stepReaches_sound (by decide)⟩

theorem witness_OnlyCooldownTurnsIndicatorOff :
    ∃ t, step (feed { at_ PH_COOLDOWN D_IDLE 0 true with indOn := true } (tick 5000000 true)) = .next t ∧
      (!t.indOn) = true := stepReaches_sound (by decide)

/-- One step at the last instant of the cooldown. -/
theorem witness_IndicatorStaysOn :
    (at_ PH_COOLDOWN D_IDLE 0 true).tMotion = 0 % 2 ^ State.reset.cfg.tw ∧
    State.reset.cfg.tCool ≤ 2 ^ State.reset.cfg.tw ∧
    (∃ t, step (feed { at_ PH_COOLDOWN D_IDLE 0 true with indOn := true } (tick 4999999 true)) = .next t ∧
      (t.inputs.now == 4999999 && t.indOn) = true) ∧
    ∀ m, (feed { at_ PH_COOLDOWN D_IDLE 0 true with indOn := true } (tick 4999999 true)).nextItem ≠ .reset m :=
  ⟨by decide, by decide, stepReaches_sound (by decide), fun _ h => by cases h⟩

theorem witness_InventoryLaw :
    (State.reset.drainAll [.removed, .entered]).invOvf = false ∧ State.reset.inv < 2 ^ State.reset.cfg.cw ∧
    noLateEntry 0 [.entered, .removed, .entered, .removed, .removed] = true ∧
    noLateEntry 0 [.removed, .entered] = false := by decide

theorem witness_InputsReadOnlyWhereNamed :
    (∃ t, exec .loopPoll State.reset = .next t ∧ t.phase == PH_DRAIN_IN) ∧
    Instr.loopPoll ∉ [Instr.decTurn, .decAckl, .decAckh, .decBith, .decBitd, .decBitl] ∧
    Instr.loopPoll ≠ .loopBtn := ⟨reaches_sound (by decide), by decide, by decide⟩

/-- Two states that differ in every register R48 leaves unspecified. -/
theorem witness_StepReadsOnlyLiveRegisters :
    SameLive State.reset
      { State.reset with
        frame := 7#40, bitcnt := 9#6, tMark := 1, dErr := .checksum, dHum := 3#8, dTemp := 4#8, tIdle := 5,
        tMotion := 6 } := by constructor <;> decide

/-! The premises of R140 to R142, on an instance with short times and MAIN steps ten apart. -/

/-- Short times: `G` is 10. -/
def quick : Config := { Config.nominal with tReq := 20, tSample := 10, tWait := 100, tTurn := 0 }

/-- A waveform the conditions of R141 admit for a release at 1000 and `G` of 10. -/
def wave : Waveform := ⟨1000, 15, 15, 31, 10, 31, 31⟩

/-- Forty bits: a frame of zeros but for its last bit. -/
def sent (last : Bool) : List Bool := List.replicate 39 false ++ [last]

/-- The read just after the release at 1000, and ENV's steps every 10 from there. -/
def answering (last : Bool) : State :=
  { State.resetWith quick 1000 with
    phase := PH_DECODE, dstate := D_TURN, tMark := 1000,
    script := (List.range 180).map fun k => tick (1010 + 10 * k) (wave.level (sent last) (1010 + 10 * k)) }

/-- What R141 asks of each state of a run. -/
def follows (bits : List Bool) (u : State) : Bool :=
  decide u.inRead && itemFollowsWave wave bits 10 u.inputs.now u.nextItem

theorem witness_WellTimedReadIsExact_premises :
    wave.wellTimed quick 1000 10 ∧ wave.finish (sent true) + 10 < 1000 + 2 ^ quick.tw ∧ (sent true).length = 40 ∧
    bitsGood (sent false) ∧ ¬ bitsGood (sent true) := by decide

/-- Forty zeros, whose checksum is good, and the same with a wrong last bit: each run stays within the premises
and ends in `D_DONE` after the sensor has finished. -/
theorem witness_WellTimedReadIsExact :
    along (follows (sent false)) 169 (answering false) = true ∧
    (after (Sys2Proof.core.run 169 (answering false))).map (fun t : State => (t.dstate, t.dErr)) =
      some (D_DONE, .none) ∧
    along (follows (sent true)) 171 (answering true) = true ∧
    (after (Sys2Proof.core.run 171 (answering true))).map (fun t : State => (t.dstate, t.dErr)) =
      some (D_DONE, .checksum) := by decide +kernel

/-- The same read from its call at 980, the line still driven; the last operation is LOOP.RET. -/
def called (last : Bool) : State :=
  { answering last with
    dstate := D_REQ, tMark := 980, sdaOe := true, inputs := ⟨980, true, false, false⟩,
    script := tick 1000 true :: (answering last).script }

/-- A read that no sensor answers. -/
def unanswered : State := { called false with script := [tick 1000 true, tick 1010 true] }

/-- The read of zeros, the read with a wrong last bit, the read without an answer: in the read all along, and the
result clause each meets. -/
theorem witness_ReadResultIsTheSampledFrame :
    quick.wf = true ∧ along (fun u => decide u.inRead) 171 (called false) = true ∧
    (after (Sys2Proof.core.run 170 (called false))).map (fun t : State => (t.dstate, t.dErr)) =
      some (D_DONE, .none) ∧
    along (fun u => decide u.inRead) 173 (called true) = true ∧
    (after (Sys2Proof.core.run 172 (called true))).map (fun t : State => (t.dstate, t.dErr)) =
      some (D_DONE, .checksum) ∧
    (after (Sys2Proof.core.run 2 unanswered)).map (fun t : State => (t.dstate, t.dErr)) =
      some (D_DONE, .noResponse) := by decide +kernel

/-- The whole read with LOOP.RET, MAIN steps at most 20 apart. -/
theorem witness_ReadLengthBounded :
    readBound quick 20 < 2 ^ quick.tw ∧
    along (fun u => decide u.inRead &&
      match u.nextItem with
      | .main now _ _ _ => decide (now ≤ u.inputs.now + 20)
      | _ => false) 171 (called false) = true ∧
    (after (Sys2Proof.core.run 171 (called false))).map (fun t : State => t.phase) = some PH_DRAIN_IN := by
  decide +kernel

end Sys2Proof.Tests
end

section
/-! The step on each kind of ENV item, and the three statements about it of `00_scope.md` (R10, R24, U16). -/

namespace Sys2Proof.Machine

/-! ## The step, by the kind of the next item -/

/-- Taking ENV's item leaves the sequencer word. -/
@[simp] theorem State.takeItem_seq (s : State) : s.takeItem.seq = s.seq := by simp [State.seq]

theorem step_of_nextItem_main {s : State} {now : Nat} {sda bs bp : Bool}
    (hitem : s.nextItem = .main now sda bs bp) : step s = mainStep ⟨now, sda, bs, bp⟩ s.takeItem := by
  rw [step, hitem, deliver]

theorem step_of_nextItem_capture {s : State} {src : EvtSrc} {edge : EvtEdge}
    (hitem : s.nextItem = .capture src edge) : step s = exec (decodeEv (evWord src edge)) s.takeItem := by
  rw [step, hitem, deliver, captureStep]

theorem step_of_nextItem_reset {s : State} {n : Nat} (hitem : s.nextItem = .reset n) :
    step s = resetStep n s.takeItem := by
  rw [step, hitem, deliver]

/-! ## MAIN and reset items, by their clock value -/

theorem mainStep_of_decodeSeq_ok {inp : Inputs} {s : State} {i : Instr} (hclock : s.inputs.now ≤ inp.now)
    (hdecode : decodeSeq s.seq = .ok i) : mainStep inp s = exec i { s with inputs := inp } := by
  rw [mainStep, if_neg (Nat.not_lt.mpr hclock), hdecode]

theorem mainStep_of_clock_lt {inp : Inputs} {s : State} (hclock : inp.now < s.inputs.now) :
    mainStep inp s = .refused .clockBackwards := by
  rw [mainStep, if_pos hclock]

theorem resetStep_of_clock_lt {n : Nat} {s : State} (hclock : n < s.inputs.now) :
    resetStep n s = .refused .clockBackwards := by
  rw [resetStep, if_pos hclock]

/-! ## The statements -/

/-- Settles O6: the clock test passes and the dispatcher answers `i`, and taking the item has changed neither
the last clock value nor `seq`. -/
theorem stepRunsMainOperation : Obligations.StepRunsMainOperation := by
  intro s now sda bs bp i hitem hclock hdecode
  have hlast : s.takeItem.inputs.now ≤ now := by simpa using hclock
  have hseq : decodeSeq s.takeItem.seq = .ok i := by simpa [decode] using hdecode
  rw [step_of_nextItem_main hitem, mainStep_of_decodeSeq_ok hlast hseq]

/-- Settles O7: no event word is reserved (R101), so `decode` answers the operation CAPTURE's dispatcher runs. -/
theorem stepRunsCaptureOperation : Obligations.StepRunsCaptureOperation := by
  intro s src edge i hitem hdecode
  have hrun : decodeEv (evWord src edge) = i := by simpa [decode] using hdecode
  rw [step_of_nextItem_capture hitem, hrun]

/-- Settles O9, by the kind of the item: MAIN and reset items carry a clock value and test it before anything
else; a CAPTURE item carries none. -/
theorem clockBackwardsRefused : Obligations.ClockBackwardsRefused := by
  intro s t htime hback
  have hlast : t < s.takeItem.inputs.now := by simpa using hback
  cases hitem : s.nextItem with
  | main now sda bs bp =>
    obtain rfl : now = t := by simpa [hitem, EnvStep.time?] using htime
    rw [step_of_nextItem_main hitem, mainStep_of_clock_lt hlast]
  | capture src edge => simp [hitem, EnvStep.time?] at htime
  | reset n =>
    obtain rfl : n = t := by simpa [hitem, EnvStep.time?] using htime
    rw [step_of_nextItem_reset hitem, resetStep_of_clock_lt hlast]

end Sys2Proof.Machine
end

section
/-! What each operation may write (R47), what a move of MAIN does to each group of registers, and the step as an
induction principle for invariants (R28, R34, R39, R42, R126). -/

namespace Sys2Proof.Machine

/-! ## The registers each operation may write (R47) -/

/-- `s` with the registers that `i` may write taken from `t`: the writers' column of R47, read by operation. -/
def State.withWritesOf (s t : State) : Instr → State
  | .loopPoll =>
    { s with
      phase := t.phase, dstate := t.dstate, sdaOe := t.sdaOe, tMark := t.tMark, frame := t.frame,
      bitcnt := t.bitcnt }
  | .decReq => { s with dstate := t.dstate, sdaOe := t.sdaOe, tMark := t.tMark }
  | .decTurn | .decAckl | .decAckh | .decBith | .decBitl =>
    { s with dstate := t.dstate, sdaOe := t.sdaOe, tMark := t.tMark, dErr := t.dErr }
  | .decBitd => { s with dstate := t.dstate, tMark := t.tMark, frame := t.frame, bitcnt := t.bitcnt }
  | .decChk => { s with dstate := t.dstate, dErr := t.dErr, dHum := t.dHum, dTemp := t.dTemp }
  | .loopRet =>
    { s with
      phase := t.phase, dstate := t.dstate, tPoll := t.tPoll, lastErr := t.lastErr, m1Duty := t.m1Duty,
      m1En := t.m1En, report := t.report }
  | .loopDrin =>
    { s with
      phase := t.phase, dstate := t.dstate, fIn := t.fIn, inv := t.inv, invOvf := t.invOvf, report := t.report }
  | .loopDrout =>
    { s with phase := t.phase, dstate := t.dstate, fOut := t.fOut, inv := t.inv, report := t.report }
  | .loopDrmot =>
    { s with
      phase := t.phase, dstate := t.dstate, fMotion := t.fMotion, indOn := t.indOn, tMotion := t.tMotion,
      report := t.report }
  | .loopCool => { s with phase := t.phase, dstate := t.dstate, indOn := t.indOn, report := t.report }
  | .loopBtn =>
    { s with phase := t.phase, dstate := t.dstate, m2On := t.m2On, tIdle := t.tIdle, report := t.report }
  | .loopIdle => { s with phase := t.phase, dstate := t.dstate }
  | .evtIn => { s with fIn := t.fIn }
  | .evtOut => { s with fOut := t.fOut }
  | .evtMot => { s with fMotion := t.fMotion }
  | .evtIgnInRise | .evtIgnOutRise | .evtIgnMotFall | .evtIgnOtherFall | .evtIgnOtherRise => s

/-- The increment writes the count and the sticky fault only (R188). -/
theorem State.invIncrement_eq (s : State) :
    s.invIncrement = { s with inv := s.invIncrement.inv, invOvf := s.invIncrement.invOvf } := by
  unfold State.invIncrement
  split <;> rfl

/-- The frame of every operation: outside the registers R47 lets it write, the next state is the one before. -/
theorem exec_eq_withWritesOf {i : Instr} {s t : State} (h : exec i s = .next t) : t = s.withWritesOf t i := by
  cases i
  case loopPoll => obtain ⟨-, rfl⟩ | ⟨-, rfl⟩ := execLoopPoll_cases h <;> rfl
  case decReq => obtain ⟨-, rfl⟩ | ⟨-, rfl⟩ := execDecReq_cases h <;> rfl
  case decTurn => obtain ⟨-, -, rfl⟩ | ⟨-, -, rfl⟩ | ⟨-, rfl⟩ := execDecTurn_cases h <;> rfl
  case decAckl =>
    obtain ⟨-, rfl⟩ | ⟨-, -, rfl⟩ | ⟨-, -, rfl⟩ := execWait_cases (.inl rfl) h <;> rfl
  case decAckh =>
    obtain ⟨-, rfl⟩ | ⟨-, -, rfl⟩ | ⟨-, -, rfl⟩ := execWait_cases (.inr (.inl rfl)) h <;> rfl
  case decBith =>
    obtain ⟨-, rfl⟩ | ⟨-, -, rfl⟩ | ⟨-, -, rfl⟩ := execWait_cases (.inr (.inr (.inl rfl))) h <;> rfl
  case decBitl =>
    obtain ⟨-, rfl⟩ | ⟨-, -, rfl⟩ | ⟨-, -, rfl⟩ := execWait_cases (.inr (.inr (.inr rfl))) h <;> rfl
  case decBitd => obtain ⟨-, rfl⟩ | ⟨-, rfl⟩ := execDecBitd_cases h <;> rfl
  case decChk => obtain ⟨-, rfl⟩ | ⟨-, rfl⟩ := execDecChk_cases h <;> rfl
  case loopRet => obtain ⟨-, rfl⟩ | ⟨-, rfl⟩ := execLoopRet_cases h <;> rfl
  case loopDrin =>
    obtain ⟨-, rfl⟩ | ⟨-, rfl⟩ := execLoopDrin_cases h
    · rw [State.itemEntered, State.invIncrement_eq]; rfl
    · rfl
  case loopDrout => obtain ⟨-, rfl⟩ | ⟨-, rfl⟩ := execLoopDrout_cases h <;> rfl
  case loopDrmot => obtain ⟨-, -, rfl⟩ | ⟨-, -, rfl⟩ | ⟨-, rfl⟩ := execLoopDrmot_cases h <;> rfl
  case loopCool => obtain ⟨-, -, rfl⟩ | ⟨-, rfl⟩ := execLoopCool_cases h <;> rfl
  case loopBtn => obtain ⟨-, -, rfl⟩ | ⟨-, -, rfl⟩ | ⟨-, rfl⟩ := execLoopBtn_cases h <;> rfl
  case loopIdle => obtain ⟨-, rfl⟩ | ⟨-, rfl⟩ := execLoopIdle_cases h <;> rfl
  all_goals
    obtain rfl := Host.Outcome.next.inj h
    rfl

/-- No operation touches the parameters, the inputs or what ENV will do next (R44, R46). -/
theorem exec_env {i : Instr} {s t : State} (h : exec i s = .next t) :
    t.cfg = s.cfg ∧ t.inputs = s.inputs ∧ t.script = s.script ∧ t.envDrawn = s.envDrawn := by
  rw [exec_eq_withWritesOf h]
  cases i <;> exact ⟨rfl, rfl, rfl, rfl⟩

end Sys2Proof.Machine
end

section
/-! What a move of MAIN does to the line, the stamps, the count, Motor 1 and the slots, and the invariants that
every step keeps (R25, R28, R34, R39, R42, R126). -/

namespace Sys2Proof.Machine

/-! ## The step as an induction principle -/

/-- A property that does not look at ENV's own fields or at the edge flags, that every operation of MAIN keeps at
its own word and that the release of reset brings about, is kept by every step. -/
theorem step_keeps {P : State → Prop}
    (henv : ∀ (s : State) (inp : Inputs) (fi fo fm : Bool) (script : List EnvStep) (d : Nat), P s →
      P { s with inputs := inp, fIn := fi, fOut := fo, fMotion := fm, script := script, envDrawn := d })
    (hmove : ∀ i s t, Move i s t → P s → P t)
    (hreset : ∀ s n, P s → P (s.releaseReset n)) {s t : State} (hs : P s) (h : step s = .next t) : P t := by
  have htake : P s.takeItem := by
    unfold State.takeItem
    split
    · exact henv s s.inputs s.fIn s.fOut s.fMotion _ s.envDrawn hs
    · exact henv s s.inputs s.fIn s.fOut s.fMotion s.script _ hs
  obtain ⟨now, sda, bs, bp, i, -, -, hm⟩ | ⟨-, -, -, rfl | ⟨f, rfl⟩⟩ | ⟨n, -, -, rfl⟩ := step_moves h
  · exact hmove i _ t hm (henv s.takeItem _ s.takeItem.fIn s.takeItem.fOut s.takeItem.fMotion
      s.takeItem.script s.takeItem.envDrawn htake)
  · exact htake
  · cases f <;> exact henv s.takeItem s.takeItem.inputs _ _ _ s.takeItem.script s.takeItem.envDrawn htake
  · exact hreset _ n htake

/-! ## The bounded waits -/

/-- A bounded wait at its place: the operation, the level it awaits and the state it leads to (R123 to R125,
R127). -/
abbrev State.WaitAt (s : State) (i : Instr) (want : Bool) (next : DState) : Prop :=
  (i, want, next) = (.decAckl, true, D_ACKH) ∧ s.dstate = D_ACKL ∨
  (i, want, next) = (.decAckh, false, D_BITH) ∧ s.dstate = D_ACKH ∨
  (i, want, next) = (.decBith, true, D_BITD) ∧ s.dstate = D_BITH ∨
  (i, want, next) = (.decBitl, false, if s.bitcnt.toNat = s.cfg.nSlots then D_CHK else D_BITH) ∧ s.dstate = D_BITL

/-- The four ways a wait can end with its level there, as states of the decoder. -/
theorem State.WaitAt.dstates {s : State} {i : Instr} {want : Bool} {next : DState} (hw : s.WaitAt i want next) :
    s.dstate = D_ACKL ∧ next = D_ACKH ∨ s.dstate = D_ACKH ∧ next = D_BITH ∨
      s.dstate = D_BITH ∧ next = D_BITD ∨
      s.dstate = D_BITL ∧ s.bitcnt.toNat = s.cfg.nSlots ∧ next = D_CHK ∨
      s.dstate = D_BITL ∧ s.bitcnt.toNat ≠ s.cfg.nSlots ∧ next = D_BITH := by
  obtain ⟨he, hd⟩ | ⟨he, hd⟩ | ⟨he, hd⟩ | ⟨he, hd⟩ := hw <;> cases he
  · exact .inl ⟨hd, rfl⟩
  · exact .inr (.inl ⟨hd, rfl⟩)
  · exact .inr (.inr (.inl ⟨hd, rfl⟩))
  · split
    · exact .inr (.inr (.inr (.inl ⟨hd, ‹_›, rfl⟩)))
    · exact .inr (.inr (.inr (.inr ⟨hd, ‹_›, rfl⟩)))

/-- A wait is made and ends inside the read, past the request pulse. -/
theorem State.WaitAt.bounds {s : State} {i : Instr} {want : Bool} {next : DState} (hw : s.WaitAt i want next) :
    D_TURN ≤ s.dstate ∧ D_TURN ≤ next ∧ next ≤ D_DONE := by
  obtain ⟨hd, rfl⟩ | ⟨hd, rfl⟩ | ⟨hd, rfl⟩ | ⟨hd, -, rfl⟩ | ⟨hd, -, rfl⟩ := hw.dstates <;> rw [hd] <;> decide

/-- From `D_TURN` on the decoder is past the request pulse. -/
theorem ne_D_REQ_of_ge {d : DState} (h : D_TURN ≤ d) : d ≠ D_REQ := by
  rintro rfl
  exact absurd h (by decide)

/-! ## The sequencer word (R28) -/

theorem State.seqLegal_of_loop {s : State} (hp : s.phase ≠ PH_DECODE) (hd : s.dstate = D_IDLE) : s.seqLegal := by
  rw [State.seqLegal, if_neg hp]
  exact hd

theorem State.seqLegal_of_read {s : State} {d : DState} (hp : s.phase = PH_DECODE) (hd : s.dstate = d)
    (hrange : D_REQ ≤ d ∧ d ≤ D_DONE) : s.seqLegal := by
  rw [State.seqLegal, if_pos hp, hd]
  exact hrange

/-- A write of `seq` at a step of the control loop gives a legal word. -/
theorem State.setSeq_seqLegal (s : State) {p : Phase} (hp : p ≠ PH_DECODE) : (s.setSeq p D_IDLE).seqLegal :=
  State.seqLegal_of_loop hp rfl

theorem Move.seqLegal {i : Instr} {s t : State} (h : Move i s t) (hs : s.seqLegal) : t.seqLegal := by
  cases h
  case delays | waits => exact hs
  case pollCalls => exact State.seqLegal_of_read (d := D_REQ) rfl rfl (by decide)
  case releases hp _ _ => exact State.seqLegal_of_read (d := D_TURN) hp rfl (by decide)
  case acknowledged hp _ _ _ => exact State.seqLegal_of_read (d := D_ACKL) hp rfl (by decide)
  case levelSeen next hp _ hw =>
    obtain ⟨-, hlo, hhi⟩ := State.WaitAt.bounds hw
    exact State.seqLegal_of_read (d := next) hp rfl ⟨BitVec.le_trans (by decide) hlo, hhi⟩
  case samples hp _ _ => exact State.seqLegal_of_read (d := D_BITL) hp rfl (by decide)
  case noResponse hp _ _ _ | timesOut hp _ _ _ | validates hp _ _ | rejects hp _ _ =>
    exact State.seqLegal_of_read (d := D_DONE) hp rfl (by decide)
  all_goals exact State.setSeq_seqLegal _ (by decide)

/-! ## The line (R34) -/

/-- What a move does to the line: the call drives it, the end of the request pulse releases it, a fault past the
request pulse releases it, and every other move leaves it and does not enter or leave `D_REQ`. -/
theorem Move.line {i : Instr} {s t : State} (h : Move i s t) :
    (i = .loopPoll ∧ t.sdaOe = true ∧ t.dstate = D_REQ) ∨
    (i = .decReq ∧ t.sdaOe = false ∧ t.dstate = D_TURN) ∨
    (s.dstate ≠ D_REQ ∧ t.sdaOe = false ∧ t.dstate = D_DONE) ∨
    (t.sdaOe = s.sdaOe ∧ (t.dstate = D_REQ ↔ s.dstate = D_REQ)) := by
  have kept {u : State} {d d' : DState} (hs : s.dstate = d) (hu : u.dstate = d')
      (hne : d ≠ D_REQ ∧ d' ≠ D_REQ) : u.dstate = D_REQ ↔ s.dstate = D_REQ := by
    rw [hs, hu]
    exact iff_of_false hne.2 hne.1
  cases h
  case pollCalls => exact .inl ⟨rfl, rfl, rfl⟩
  case releases => exact .inr (.inl ⟨rfl, rfl, rfl⟩)
  case noResponse hd _ _ => exact .inr (.inr (.inl ⟨by rw [hd]; decide, rfl, rfl⟩))
  case timesOut hw => exact .inr (.inr (.inl ⟨ne_D_REQ_of_ge (State.WaitAt.bounds hw).1, rfl, rfl⟩))
  case delays | waits => exact .inr (.inr (.inr ⟨rfl, Iff.rfl⟩))
  case levelSeen hw =>
    obtain ⟨hs, hn, -⟩ := State.WaitAt.bounds hw
    exact .inr (.inr (.inr ⟨rfl, kept rfl rfl ⟨ne_D_REQ_of_ge hs, ne_D_REQ_of_ge hn⟩⟩))
  case acknowledged hd _ _ => exact .inr (.inr (.inr ⟨rfl, kept (d' := D_ACKL) hd rfl (by decide)⟩))
  case samples hd _ => exact .inr (.inr (.inr ⟨rfl, kept (d' := D_BITL) hd rfl (by decide)⟩))
  case validates hd _ | rejects hd _ => exact .inr (.inr (.inr ⟨rfl, kept (d' := D_DONE) hd rfl (by decide)⟩))
  case drainsIn hd _ =>
    exact .inr (.inr (.inr ⟨by simp [State.itemEntered], kept (d' := D_IDLE) hd rfl (by decide)⟩))
  case drainsMotionOn hd _ _ | drainsMotionOff hd _ _ | coolsDown hd _ _ | starts hd _ _ | stops hd _ _ =>
    exact .inr (.inr (.inr ⟨rfl, kept (d' := D_IDLE) hd rfl (by decide)⟩))
  case pollSkips hd _ | usesReading hd _ | reportsFault hd _ | skipsIn hd _ | drainsOut hd _ | skipsOut hd _
    | skipsMotion hd _ | staysWarm hd _ | keepsMotor2 hd _ | idleOver hd _ =>
    exact .inr (.inr (.inr ⟨rfl, kept (d' := D_IDLE) hd rfl (by decide)⟩))

theorem Move.lineOwned {i : Instr} {s t : State} (h : Move i s t) (hs : s.lineOwned) : t.lineOwned := by
  obtain ⟨-, ho, hd⟩ | ⟨-, ho, hd⟩ | ⟨-, ho, hd⟩ | ⟨ho, hd⟩ := h.line
  · exact iff_of_true ho hd
  · exact iff_of_false (by simp [ho]) (by rw [hd]; decide)
  · exact iff_of_false (by simp [ho]) (by rw [hd]; decide)
  · rw [State.lineOwned, ho, hd]
    exact hs

/-! ## Stamps and count (R25, R39) -/

/-- A move writes a stamp with the clock's value or not at all. -/
theorem Move.stamps {i : Instr} {s t : State} (h : Move i s t) :
    (t.tMark = s.tMark ∨ t.tMark = s.nowStamp) ∧ (t.tPoll = s.tPoll ∨ t.tPoll = s.nowStamp) ∧
    (t.tIdle = s.tIdle ∨ t.tIdle = s.nowStamp) ∧ (t.tMotion = s.tMotion ∨ t.tMotion = s.nowStamp) := by
  cases h
  case pollCalls | releases | acknowledged | levelSeen | samples => exact ⟨.inr rfl, .inl rfl, .inl rfl, .inl rfl⟩
  case usesReading | reportsFault => exact ⟨.inl rfl, .inr rfl, .inl rfl, .inl rfl⟩
  case starts | stops | keepsMotor2 => exact ⟨.inl rfl, .inl rfl, .inr rfl, .inl rfl⟩
  case drainsMotionOn | drainsMotionOff => exact ⟨.inl rfl, .inl rfl, .inl rfl, .inr rfl⟩
  case drainsIn => simp [State.itemEntered]
  all_goals exact ⟨.inl rfl, .inl rfl, .inl rfl, .inl rfl⟩

/-- A move leaves the count, or drains transitIn or transitOut into it. -/
theorem Move.count {i : Instr} {s t : State} (h : Move i s t) :
    t.inv = s.inv ∨ t.inv = (s.putFlag .transitIn false).invIncrement.inv ∨ t.inv = s.inv - 1 := by
  cases h
  case drainsIn => exact .inr (.inl rfl)
  case drainsOut => exact .inr (.inr rfl)
  all_goals exact .inl rfl

theorem Move.widthsHeld {i : Instr} {s t : State} (h : Move i s t) (hs : s.widthsHeld) : t.widthsHeld := by
  obtain ⟨hMark, hPoll, hIdle, hMotion, hInv⟩ := hs
  obtain ⟨tMark, tPoll, tIdle, tMotion⟩ := h.stamps
  obtain ⟨hcfg, -⟩ := h.env
  have stamp {x y : Nat} (hx : x < 2 ^ s.cfg.tw) (hy : y = x ∨ y = s.nowStamp) : y < 2 ^ s.cfg.tw := by
    obtain rfl | rfl := hy
    · exact hx
    · exact s.nowStamp_lt
  rw [State.widthsHeld, hcfg]
  refine ⟨stamp hMark tMark, stamp hPoll tPoll, stamp hIdle tIdle, stamp hMotion tMotion, ?_⟩
  obtain hc | hc | hc := h.count
  · exact hc ▸ hInv
  · exact hc ▸ State.invIncrement_lt (s.putFlag .transitIn false) hInv
  · exact hc ▸ lt_of_le_of_lt (Nat.sub_le _ _) hInv

/-! ## Motor 1 (R42) -/

/-- A move leaves Motor 1 or gives it a command of R220. -/
theorem Move.motor1 {i : Instr} {s t : State} (h : Move i s t) :
    (t.m1Duty = s.m1Duty ∧ t.m1En = s.m1En) ∨
    ∃ m, m = m1Command s.cfg s.dTemp s.dHum ∧ t.m1Duty = m.duty ∧ t.m1En = m.en := by
  cases h
  case usesReading => exact .inr ⟨_, rfl, rfl, rfl⟩
  case drainsIn => simp [State.itemEntered]
  all_goals exact .inl ⟨rfl, rfl⟩

/-- Full duty of an admissible configuration is not off (R42, R232). -/
theorem dutyFull_ne_zero_of_wf {c : Config} (hwf : c.wf = true) : BitVec.ofNat 7 c.dutyFull ≠ 0#7 := by
  have hduty : c.dutyOk = true := by
    rw [Config.wf, Bool.and_eq_true] at hwf
    exact hwf.2
  simp only [Config.dutyOk, Bool.and_eq_true, decide_eq_true_eq] at hduty
  intro h
  have h0 : c.dutyFull % 2 ^ 7 = 0 := by simpa using congrArg BitVec.toNat h
  omega

/-- The frame of an admissible configuration has 40 slots (R90). -/
theorem nSlots_eq_of_wf {c : Config} (hwf : c.wf = true) : c.nSlots = 40 := by
  simp only [Config.wf, Config.frameOk, Bool.and_eq_true, decide_eq_true_eq] at hwf
  exact hwf.1.2.1

theorem Move.motor1Coherent {i : Instr} {s t : State} (h : Move i s t) (hwf : s.cfg.wf = true)
    (hs : s.motor1Coherent) : t.motor1Coherent := by
  have hfull := dutyFull_ne_zero_of_wf hwf
  obtain ⟨hcfg, -⟩ := h.env
  rw [State.motor1Coherent, hcfg]
  obtain ⟨hduty, hen⟩ | ⟨m, hm, hduty, hen⟩ := h.motor1 <;> rw [hduty, hen]
  · exact hs
  · obtain ⟨-, hc⟩ | ⟨-, -, hc⟩ := m1Command_cases s.cfg s.dTemp s.dHum <;> rw [hm, hc]
    · simp
    · simpa using hfull.symm

/-! ## The slots (R30, R126) -/

/-- What `slotsCounted` says of a read at decoder state `d`, with `n` slots to a frame. -/
def slotsAt (n : Nat) (frame : Frame) (bitcnt : BitVec 6) (d : DState) : Prop :=
  frame.toNat < 2 ^ bitcnt.toNat ∧ bitcnt.toNat ≤ n ∧ (d ≤ D_ACKH → bitcnt = 0#6) ∧
    (d = D_BITH ∨ d = D_BITD → bitcnt.toNat < n) ∧ (d = D_BITL → 0 < bitcnt.toNat) ∧ (d = D_CHK → bitcnt.toNat = n)

theorem State.slotsCounted_iff (s : State) :
    s.slotsCounted ↔ (s.phase = PH_DECODE → slotsAt s.cfg.nSlots s.frame s.bitcnt s.dstate) := Iff.rfl

section
variable {n : Nat} {frame : Frame} {bitcnt : BitVec 6} {d : DState}

/-- Up to `D_ACKH` nothing has been sampled. -/
theorem slotsAt.eq_zero (h : slotsAt n frame bitcnt d) (hd : d ≤ D_ACKH) : frame = 0#40 ∧ bitcnt = 0#6 := by
  obtain ⟨hframe, -, hzero, -⟩ := h
  obtain rfl := hzero hd
  exact ⟨BitVec.eq_of_toNat_eq (Nat.lt_one_iff.mp hframe), rfl⟩

/-- Nothing sampled is right up to the first `D_BITH`. -/
theorem slotsAt_zero (hn : 0 < n) (hd : d ≤ D_BITH) : slotsAt n 0#40 0#6 d := by
  refine ⟨by decide, Nat.zero_le n, fun _ => rfl, fun _ => hn, ?_, ?_⟩
  · rintro rfl
    exact absurd hd (by decide)
  · rintro rfl
    exact absurd hd (by decide)

/-- The line high in a slot: the slot is not sampled yet (R125). -/
theorem slotsAt.rise (h : slotsAt n frame bitcnt D_BITH) : slotsAt n frame bitcnt D_BITD := by
  obtain ⟨hframe, hle, -, hlt, -, -⟩ := h
  exact ⟨hframe, hle, fun hd => absurd hd (by decide), fun _ => hlt (.inl rfl), fun hd => absurd hd (by decide),
    fun hd => absurd hd (by decide)⟩

/-- One more slot sampled (R126); six bits hold the count of 40. -/
theorem slotsAt.sample (h : slotsAt n frame bitcnt D_BITD) (hn : n = 40) (b : Bool) :
    slotsAt n (shiftIn frame b) (bitcnt + 1#6) D_BITL := by
  obtain ⟨hframe, -, -, hlt, -, -⟩ := h
  have hlt : bitcnt.toNat < 40 := hn ▸ hlt (.inr rfl)
  have hcount : (bitcnt + 1#6).toNat = bitcnt.toNat + 1 := by
    rw [BitVec.toNat_add, BitVec.toNat_ofNat]
    omega
  have hshift : (shiftIn frame b).toNat < 2 ^ (bitcnt.toNat + 1) := by
    have hb : b.toNat < 2 := Bool.toNat_lt b
    calc (shiftIn frame b).toNat ≤ 2 * frame.toNat + b.toNat := by
          rw [shiftIn_toNat]
          exact Nat.mod_le _ _
      _ < 2 ^ (bitcnt.toNat + 1) := by
          rw [Nat.pow_succ]
          omega
  refine ⟨hcount ▸ hshift, by omega, fun hd => absurd hd (by decide), ?_, fun _ => by omega,
    fun hd => absurd hd (by decide)⟩
  rintro (hd | hd)
  · exact absurd hd (by decide)
  · exact absurd hd (by decide)

/-- The line low after the last slot (R127). -/
theorem slotsAt.last (h : slotsAt n frame bitcnt D_BITL) (hall : bitcnt.toNat = n) :
    slotsAt n frame bitcnt D_CHK := by
  obtain ⟨hframe, hle, -⟩ := h
  refine ⟨hframe, hle, fun hd => absurd hd (by decide), ?_, fun hd => absurd hd (by decide), fun _ => hall⟩
  rintro (hd | hd)
  · exact absurd hd (by decide)
  · exact absurd hd (by decide)

/-- The line low after another slot (R127). -/
theorem slotsAt.another (h : slotsAt n frame bitcnt D_BITL) (hmore : bitcnt.toNat ≠ n) :
    slotsAt n frame bitcnt D_BITH := by
  obtain ⟨hframe, hle, -⟩ := h
  exact ⟨hframe, hle, fun hd => absurd hd (by decide), fun _ => lt_of_le_of_ne hle hmore,
    fun hd => absurd hd (by decide), fun hd => absurd hd (by decide)⟩

/-- The end of a read asks nothing more of the count (R128, R241). -/
theorem slotsAt.done (h : slotsAt n frame bitcnt d) : slotsAt n frame bitcnt D_DONE := by
  obtain ⟨hframe, hle, -⟩ := h
  refine ⟨hframe, hle, fun hd => absurd hd (by decide), ?_, fun hd => absurd hd (by decide),
    fun hd => absurd hd (by decide)⟩
  rintro (hd | hd)
  · exact absurd hd (by decide)
  · exact absurd hd (by decide)

/-- Before `D_BITH` a read moves on with nothing sampled (R121 to R124). -/
theorem slotsAt.unsampled {d' : DState} (h : slotsAt n frame bitcnt d) (hn : 0 < n) (hd : d ≤ D_ACKH)
    (hd' : d' ≤ D_BITH) : slotsAt n frame bitcnt d' := by
  obtain ⟨rfl, rfl⟩ := h.eq_zero hd
  exact slotsAt_zero hn hd'

end

/-- A write of `seq` at a step of the control loop is outside any read. -/
theorem State.setSeq_slotsCounted (s : State) {p : Phase} (hp : p ≠ PH_DECODE) (d : DState) :
    (s.setSeq p d).slotsCounted :=
  fun hread => absurd hread hp

theorem Move.slotsCounted {i : Instr} {s t : State} (h : Move i s t) (hwf : s.cfg.wf = true)
    (hs : s.slotsCounted) : t.slotsCounted := by
  have h40 := nSlots_eq_of_wf hwf
  have hn : 0 < s.cfg.nSlots := by omega
  rw [State.slotsCounted_iff] at hs
  cases h
  case delays | waits => exact hs
  case pollCalls => exact fun _ => slotsAt_zero (d := D_REQ) hn (by decide)
  case releases hp hd _ => exact fun _ => (hs hp).unsampled (d' := D_TURN) hn (hd ▸ by decide) (by decide)
  case acknowledged hp hd _ _ => exact fun _ => (hs hp).unsampled (d' := D_ACKL) hn (hd ▸ by decide) (by decide)
  case levelSeen hp _ hw =>
    have hs := hs hp
    obtain ⟨hd, rfl⟩ | ⟨hd, rfl⟩ | ⟨hd, rfl⟩ | ⟨hd, hall, rfl⟩ | ⟨hd, hmore, rfl⟩ := State.WaitAt.dstates hw <;>
      rw [hd] at hs
    · exact fun _ => hs.unsampled (d' := D_ACKH) hn (by decide) (by decide)
    · exact fun _ => hs.unsampled (d' := D_BITH) hn (by decide) (by decide)
    · exact fun _ => hs.rise
    · exact fun _ => hs.last hall
    · exact fun _ => hs.another hmore
  case samples hp hd _ => exact fun _ => (hd ▸ hs hp).sample h40 _
  case noResponse hp _ _ _ | timesOut hp _ _ _ | validates hp _ _ | rejects hp _ _ => exact fun _ => (hs hp).done
  all_goals exact State.setSeq_slotsCounted _ (by decide) _

/-! ## The invariant as a whole -/

theorem Move.good {i : Instr} {s t : State} (h : Move i s t) (hs : s.good) : t.good := by
  obtain ⟨hwf, hseq, hline, hwidths, hmotor, hslots⟩ := hs
  obtain ⟨hcfg, -⟩ := h.env
  exact ⟨hcfg ▸ hwf, h.seqLegal hseq, h.lineOwned hline, h.widthsHeld hwidths, h.motor1Coherent hwf hmotor,
    h.slotsCounted hwf hslots⟩

/-! ## Reset (R48, R280) -/

theorem State.resetWith_seqLegal (c : Config) (n : Nat) : (State.resetWith c n).seqLegal :=
  State.seqLegal_of_loop (show PH_POLL ≠ PH_DECODE by decide) rfl

theorem State.resetWith_lineOwned (c : Config) (n : Nat) : (State.resetWith c n).lineOwned :=
  iff_of_false Bool.false_ne_true (show D_IDLE ≠ D_REQ by decide)

theorem State.resetWith_widthsHeld (c : Config) (n : Nat) : (State.resetWith c n).widthsHeld :=
  ⟨Nat.two_pow_pos _, Nat.mod_lt _ (Nat.two_pow_pos _), Nat.two_pow_pos _, Nat.two_pow_pos _, Nat.two_pow_pos _⟩

theorem State.resetWith_good {c : Config} (hwf : c.wf = true) (n : Nat) : (State.resetWith c n).good :=
  ⟨hwf, State.resetWith_seqLegal c n, State.resetWith_lineOwned c n, State.resetWith_widthsHeld c n,
    ⟨iff_of_false Bool.false_ne_true (dutyFull_ne_zero_of_wf hwf).symm, fun _ => rfl⟩,
    fun hread => absurd hread (show PH_POLL ≠ PH_DECODE by decide)⟩

/-! ## The statements -/

/-- Settles O32: every register R48 gives meets its clause, and a read is not in progress. -/
theorem resetIsGood : Obligations.ResetIsGood :=
  ⟨fun _ n hwf => State.resetWith_good hwf n, State.resetWith_good (by decide) 0⟩

/-- Settles O33, by what each move does to `seq`. -/
theorem seqLegalKeptByStep : Obligations.SeqLegalKeptByStep := fun _ _ =>
  step_keeps (fun _ _ _ _ _ _ _ h => h) (fun _ _ _ => Move.seqLegal) (fun s n _ => State.resetWith_seqLegal s.cfg n)

/-- Settles O34, by what each move does to the line. -/
theorem lineOwnershipKeptByStep : Obligations.LineOwnershipKeptByStep := fun _ _ =>
  step_keeps (fun _ _ _ _ _ _ _ h => h) (fun _ _ _ => Move.lineOwned)
    (fun s n _ => State.resetWith_lineOwned s.cfg n)

/-- Settles O35, by what each move does to the stamps and the count. -/
theorem widthsHeldByStep : Obligations.WidthsHeldByStep := fun _ _ =>
  step_keeps (fun _ _ _ _ _ _ _ h => h) (fun _ _ _ => Move.widthsHeld)
    (fun s n _ => State.resetWith_widthsHeld s.cfg n)

/-- Settles O36: every move keeps each clause, Motor 1's and the slots' on an admissible configuration. -/
theorem goodKeptByStep : Obligations.GoodKeptByStep := fun _ _ =>
  step_keeps (fun _ _ _ _ _ _ _ h => h) (fun _ _ _ => Move.good) (fun _ n hs => State.resetWith_good hs.1 n)

end Sys2Proof.Machine
end

section
/-! Two states that agree on everything still needed are taken alike by every named update, every operation, every
step and every run (R48, R246; entry 6). -/

namespace Sys2Proof.Machine

section

/-! ## What such states have in common -/

variable {s t : State}

theorem SameLive.nowStamp (h : SameLive s t) : s.nowStamp = t.nowStamp := by
  rw [State.nowStamp, State.nowStamp, h.cfg, h.inputs]

/-- A timer on a stamp they share has run out in both or in neither. -/
theorem SameLive.timer (h : SameLive s t) {a b m n : Nat} (hstamp : a = b) (hbound : m = n) :
    s.timerDone a m = true ↔ t.timerDone b n = true := by
  rw [State.timerDone, State.timerDone, State.elapsed, State.elapsed, h.cfg, h.inputs, hstamp, hbound]

theorem SameLive.line (h : SameLive s t) : s.lineSample = t.lineSample := congrArg Inputs.sdaIn h.inputs

theorem SameLive.flag (h : SameLive s t) (f : EdgeFlag) : s.flag f = t.flag f := by
  cases f
  case transitIn => exact h.fIn
  case transitOut => exact h.fOut
  case motion => exact h.fMotion

theorem SameLive.nextItem (h : SameLive s t) : s.nextItem = t.nextItem := by
  rw [State.nextItem, State.nextItem, h.script, h.inputs, h.envDrawn]

/-- Two branches on a test they share. -/
theorem SameLive.ite {p q : Prop} [Decidable p] [Decidable q] {a b a' b' : State} (htest : p ↔ q)
    (hyes : p → SameLive a a') (hno : ¬ p → SameLive b b') :
    SameLive (if p then a else b) (if q then a' else b') := by
  by_cases hp : p
  · rw [if_pos hp, if_pos (htest.mp hp)]
    exact hyes hp
  · rw [if_neg hp, if_neg (mt htest.mpr hp)]
    exact hno hp

/-! ## The named updates -/

/-- Outside a read only the idle delay's stamp has to agree. -/
theorem SameLive.setSeq (h : SameLive s t) {p : Phase} (hp : p ≠ PH_DECODE) (hidle : p = PH_IDLE → s.tIdle = t.tIdle)
    (d : DState) : SameLive (s.setSeq p d) (t.setSeq p d) :=
  { h with
    phase := rfl, dstate := rfl, inRead := fun hr => absurd hr hp, resultCode := fun hr => absurd hr hp
    result := fun hr => absurd hr hp, idle := hidle }

theorem SameLive.lineDrive (h : SameLive s t) (b : Bool) : SameLive (s.lineDrive b) (t.lineDrive b) :=
  { h with sdaOe := rfl }

theorem SameLive.emit (h : SameLive s t) (c : RepCode) {a b a' b' : Nat} (ha : a = a') (hb : b = b') :
    SameLive (s.emit c a b) (t.emit c a' b') :=
  { h with report := by rw [State.emit_report, State.emit_report, h.report, ha, hb] }

theorem SameLive.putMotor1 (h : SameLive s t) {m m' : MotorCommand} (hm : m = m') :
    SameLive (s.putMotor1 m) (t.putMotor1 m') :=
  { h with m1Duty := congrArg MotorCommand.duty hm, m1En := congrArg MotorCommand.en hm }

/-- Inside a read before its end: the stamp is written, no result is ready. -/
theorem SameLive.enterDState (h : SameLive s t) (hp : s.phase = PH_DECODE) {d d' : DState} (hd : d = d')
    (hne : d ≠ D_DONE) : SameLive (s.enterDState d) (t.enterDState d') :=
  { h with
    dstate := hd, inRead := fun _ => ⟨(h.inRead hp).1, (h.inRead hp).2.1, h.nowStamp⟩
    resultCode := fun _ hdone => absurd hdone hne, result := fun _ hdone => absurd hdone hne }

/-- A fault makes the result code agree, and there is no reading. -/
theorem SameLive.raiseDecodeFault (h : SameLive s t) {e : ErrCode} (he : e ≠ .none) :
    SameLive (s.raiseDecodeFault e) (t.raiseDecodeFault e) :=
  { h with
    dstate := rfl, sdaOe := rfl, resultCode := fun _ _ => rfl, result := fun _ _ hnone => absurd hnone he }

/-- The call of the decoder writes every register of the read. -/
theorem SameLive.callDecoder (h : SameLive s t) : SameLive s.callDecoder t.callDecoder :=
  { h with
    phase := rfl, dstate := rfl, sdaOe := rfl, inRead := fun _ => ⟨rfl, rfl, h.nowStamp⟩
    resultCode := fun _ hdone => absurd hdone (show D_REQ ≠ D_DONE by decide)
    result := fun _ hdone => absurd hdone (show D_REQ ≠ D_DONE by decide)
    idle := fun hidle => absurd hidle (show PH_DECODE ≠ PH_IDLE by decide) }

theorem SameLive.takeSample (h : SameLive s t) (hp : s.phase = PH_DECODE) {b b' : Bool} (hb : b = b') :
    SameLive (s.takeSample b) (t.takeSample b') := by
  obtain ⟨hframe, hcount, hmark⟩ := h.inRead hp
  exact { h with
    inRead := fun _ => ⟨by rw [State.takeSample_frame, State.takeSample_frame, hframe, hb],
      by rw [State.takeSample_bitcnt, State.takeSample_bitcnt, hcount], hmark⟩ }

/-- The end of a read with its result code written. -/
theorem SameLive.returnFromDecoder (h : SameLive s t) (herr : s.dErr = t.dErr) :
    SameLive s.returnFromDecoder t.returnFromDecoder :=
  SameLive.setSeq (s := { s with lastErr := s.dErr, tPoll := s.nowStamp })
    (t := { t with lastErr := t.dErr, tPoll := t.nowStamp }) { h with lastErr := herr, tPoll := h.nowStamp }
    (by decide) (fun hidle => absurd hidle (by decide)) D_IDLE

theorem SameLive.putFlag (h : SameLive s t) (f : EdgeFlag) (b : Bool) : SameLive (s.putFlag f b) (t.putFlag f b) := by
  cases f
  case transitIn => exact { h with fIn := rfl }
  case transitOut => exact { h with fOut := rfl }
  case motion => exact { h with fMotion := rfl }

theorem SameLive.invIncrement (h : SameLive s t) : SameLive s.invIncrement t.invIncrement :=
  .ite (by rw [h.inv, h.cfg]) (fun _ => { h with invOvf := rfl })
    (fun _ => { h with inv := by rw [h.inv, h.cfg] })

theorem SameLive.invDecrement (h : SameLive s t) : SameLive s.invDecrement t.invDecrement :=
  { h with inv := congrArg (· - 1) h.inv }

theorem SameLive.drain (h : SameLive s t) (f : EdgeFlag) {action : State → State}
    (haction : ∀ {u v}, SameLive u v → SameLive (action u) (action v)) :
    SameLive (s.drain f action) (t.drain f action) :=
  .ite (by rw [State.testAndClear, State.testAndClear, h.flag f]) (fun _ => haction (h.putFlag f false))
    (fun _ => h.putFlag f false)

/-! ## The decoder's operations, inside a read -/

theorem SameLive.decReq (h : SameLive s t) (hp : s.phase = PH_DECODE) :
    SameLiveOutcome (exec .decReq s) (exec .decReq t) :=
  SameLive.ite (h.timer (h.inRead hp).2.2 (by rw [h.cfg]))
    (fun _ => (h.lineDrive false).enterDState hp rfl (by decide)) (fun _ => h)

theorem SameLive.decTurn (h : SameLive s t) (hp : s.phase = PH_DECODE) :
    SameLiveOutcome (exec .decTurn s) (exec .decTurn t) :=
  SameLive.ite (h.timer (h.inRead hp).2.2 (by rw [h.cfg]))
    (fun _ => .ite (by rw [h.line]) (fun _ => h.raiseDecodeFault (by decide))
      (fun _ => h.enterDState hp rfl (by decide)))
    (fun _ => h)

/-- The four bounded waits (R129). -/
theorem SameLive.boundedWait (h : SameLive s t) (hp : s.phase = PH_DECODE) (want : Bool) {d d' : DState} (hd : d = d')
    (hne : d ≠ D_DONE) : SameLive (s.boundedWait want d) (t.boundedWait want d') :=
  .ite (by rw [h.line]) (fun _ => h.enterDState hp hd hne)
    (fun _ => .ite (h.timer (h.inRead hp).2.2 (by rw [h.cfg])) (fun _ => h.raiseDecodeFault (by decide)) (fun _ => h))

theorem SameLive.decBitd (h : SameLive s t) (hp : s.phase = PH_DECODE) :
    SameLiveOutcome (exec .decBitd s) (exec .decBitd t) :=
  SameLive.ite (h.timer (h.inRead hp).2.2 (by rw [h.cfg]))
    (fun _ => (h.takeSample hp h.line).enterDState hp rfl (by decide)) (fun _ => h)

theorem SameLive.decBitl (h : SameLive s t) (hp : s.phase = PH_DECODE) :
    SameLiveOutcome (exec .decBitl s) (exec .decBitl t) := by
  refine h.boundedWait hp false (by rw [(h.inRead hp).2.1, h.cfg]) ?_
  split <;> decide

theorem SameLive.decChk (h : SameLive s t) (hp : s.phase = PH_DECODE) :
    SameLiveOutcome (exec .decChk s) (exec .decChk t) := by
  have hframe := (h.inRead hp).1
  exact SameLive.ite (by rw [hframe])
    (fun _ => { h with
      dstate := rfl, resultCode := fun _ _ => rfl
      result := fun _ _ _ => ⟨congrArg frameHum hframe, congrArg frameTemp hframe⟩ })
    (fun _ => { h with
      dstate := rfl, resultCode := fun _ _ => rfl
      result := fun _ _ hnone => absurd hnone (show ErrCode.checksum ≠ .none by decide) })

/-! ## The control loop's operations, at their places -/

/-- A write of `seq` at a step of the loop that reads no idle delay. -/
theorem SameLive.setSeq_loop (h : SameLive s t) {p : Phase} (hp : p ≠ PH_DECODE ∧ p ≠ PH_IDLE) :
    SameLive (s.setSeq p D_IDLE) (t.setSeq p D_IDLE) :=
  h.setSeq hp.1 (fun hidle => absurd hidle hp.2) D_IDLE

theorem SameLive.loopPoll (h : SameLive s t) : SameLiveOutcome (exec .loopPoll s) (exec .loopPoll t) :=
  SameLive.ite (h.timer h.tPoll (by rw [h.cfg])) (fun _ => h.callDecoder) (fun _ => h.setSeq_loop (by decide))

/-- The result is read where it is ready (R186). -/
theorem SameLive.loopRet (h : SameLive s t) (hp : s.phase = PH_DECODE) (hd : s.dstate = D_DONE) :
    SameLiveOutcome (exec .loopRet s) (exec .loopRet t) := by
  have herr := h.resultCode hp hd
  have huse : SameLive s.useResult t.useResult := by
    refine SameLive.ite (by rw [herr]) (fun hnone => ?_) (fun _ => h.emit _ rfl rfl)
    obtain ⟨hhum, htemp⟩ := h.result hp hd hnone
    exact (h.putMotor1 (by rw [h.cfg, hhum, htemp])).emit _ (by rw [htemp]) (by rw [hhum])
  refine huse.returnFromDecoder ?_
  rw [State.useResult, State.useResult]
  split <;> split <;> exact herr

theorem SameLive.loopDrin (h : SameLive s t) : SameLiveOutcome (exec .loopDrin s) (exec .loopDrin t) :=
  (h.drain .transitIn fun hu => hu.invIncrement.emit _ hu.invIncrement.inv rfl).setSeq_loop (by decide)

theorem SameLive.loopDrout (h : SameLive s t) : SameLiveOutcome (exec .loopDrout s) (exec .loopDrout t) :=
  (h.drain .transitOut fun hu => hu.invDecrement.emit _ hu.invDecrement.inv rfl).setSeq_loop (by decide)

/-- The indicator's stamp is written where it is turned on (R192). -/
theorem SameLive.motionSeen (h : SameLive s t) : SameLive s.motionSeen t.motionSeen :=
  .ite (by rw [h.indOn]) (fun _ => { h with motion := fun _ => h.nowStamp })
    (fun _ => SameLive.emit (s := { s with indOn := true, tMotion := s.nowStamp })
      (t := { t with indOn := true, tMotion := t.nowStamp })
      { h with indOn := rfl, motion := fun _ => h.nowStamp } _ rfl rfl)

theorem SameLive.loopDrmot (h : SameLive s t) : SameLiveOutcome (exec .loopDrmot s) (exec .loopDrmot t) :=
  (h.drain .motion SameLive.motionSeen).setSeq_loop (by decide)

/-- The indicator's stamp is read only while it is on (R194). -/
theorem SameLive.loopCool (h : SameLive s t) : SameLiveOutcome (exec .loopCool s) (exec .loopCool t) := by
  refine SameLive.setSeq_loop (.ite ?_ (fun _ => ?_) (fun _ => h)) (by decide)
  · rw [Bool.and_eq_true, Bool.and_eq_true, ← h.indOn]
    exact and_congr_right fun hon => h.timer (h.motion hon) (by rw [h.cfg])
  · exact SameLive.emit (s := { s with indOn := false }) (t := { t with indOn := false })
      { h with indOn := rfl, motion := fun hon => absurd hon Bool.false_ne_true } _ rfl rfl

theorem SameLive.sampleButtons (h : SameLive s t) : SameLive s.sampleButtons t.sampleButtons := by
  have hm2 : SameLive { s with m2On := m2Next s.m2On s.inputs.btnStart s.inputs.btnStop }
      { t with m2On := m2Next t.m2On t.inputs.btnStart t.inputs.btnStop } :=
    { h with m2On := by rw [h.m2On, h.inputs] }
  exact .ite (by rw [h.m2On, h.inputs]) (fun _ => hm2.emit _ rfl rfl) (fun _ => hm2)

/-- The idle delay's stamp is written on the way into it (R196). -/
theorem SameLive.loopBtn (h : SameLive s t) : SameLiveOutcome (exec .loopBtn s) (exec .loopBtn t) :=
  SameLive.setSeq (s := { s.sampleButtons with tIdle := s.nowStamp })
    (t := { t.sampleButtons with tIdle := t.nowStamp }) { h.sampleButtons with idle := fun _ => h.nowStamp }
    (by decide) (fun _ => h.nowStamp) D_IDLE

theorem SameLive.loopIdle (h : SameLive s t) (hp : s.phase = PH_IDLE) :
    SameLiveOutcome (exec .loopIdle s) (exec .loopIdle t) :=
  SameLive.ite (h.timer (h.idle hp) (by rw [h.cfg])) (fun _ => h.setSeq_loop (by decide)) (fun _ => h)

/-! ## Operations, steps, runs -/

/-- An operation of MAIN at its own place reads only what the two states share. -/
theorem SameLive.exec_main (h : SameLive s t) {i : Instr} (hdecode : decodeSeq s.seq = .ok i) :
    SameLiveOutcome (exec i s) (exec i t) := by
  have hplace := State.place_of_seq hdecode
  cases i <;> simp only [place, Option.some.injEq, Prod.mk.injEq, reduceCtorEq] at hplace <;>
    obtain ⟨hp, hd⟩ := hplace
  case loopPoll => exact h.loopPoll
  case decReq => exact h.decReq hp.symm
  case decTurn => exact h.decTurn hp.symm
  case decAckl => exact h.boundedWait hp.symm true rfl (by decide)
  case decAckh => exact h.boundedWait hp.symm false rfl (by decide)
  case decBith => exact h.boundedWait hp.symm true rfl (by decide)
  case decBitd => exact h.decBitd hp.symm
  case decBitl => exact h.decBitl hp.symm
  case decChk => exact h.decChk hp.symm
  case loopRet => exact h.loopRet hp.symm hd.symm
  case loopDrin => exact h.loopDrin
  case loopDrout => exact h.loopDrout
  case loopDrmot => exact h.loopDrmot
  case loopCool => exact h.loopCool
  case loopBtn => exact h.loopBtn
  case loopIdle => exact h.loopIdle hp.symm

/-- An operation of CAPTURE stores a flag or nothing. -/
theorem SameLive.exec_capture (h : SameLive s t) {i : Instr} (hi : i.agent = .capture) :
    SameLiveOutcome (exec i s) (exec i t) := by
  cases i
  case evtIn => exact h.putFlag .transitIn true
  case evtOut => exact h.putFlag .transitOut true
  case evtMot => exact h.putFlag .motion true
  case evtIgnInRise | evtIgnOutRise | evtIgnMotFall | evtIgnOtherFall | evtIgnOtherRise => exact h
  all_goals exact absurd hi (by decide)

theorem State.takeItem_of_nil (hs : s.script = []) : s.takeItem = { s with envDrawn := s.envDrawn + 1 } := by
  rw [State.takeItem, hs]

theorem State.takeItem_of_cons {item : EnvStep} {rest : List EnvStep} (hs : s.script = item :: rest) :
    s.takeItem = { s with script := rest } := by
  rw [State.takeItem, hs]

theorem SameLive.takeItem (h : SameLive s t) : SameLive s.takeItem t.takeItem := by
  have hscript := h.script.symm
  cases hs : s.script with
  | nil =>
    rw [State.takeItem_of_nil hs, State.takeItem_of_nil (hscript.trans hs)]
    exact { h with envDrawn := congrArg (· + 1) h.envDrawn }
  | cons item rest =>
    rw [State.takeItem_of_cons hs, State.takeItem_of_cons (hscript.trans hs)]
    exact { h with script := rfl }

theorem mainStep_of_decodeSeq_error {inp : Inputs} {w : SeqWord} (hclock : s.inputs.now ≤ inp.now)
    (hdecode : decodeSeq s.seq = .error (.reservedSeq w)) : mainStep inp s = .fault (.reservedSeq w) := by
  rw [Machine.mainStep, if_neg (Nat.not_lt.mpr hclock), hdecode]

theorem SameLive.mainStep (h : SameLive s t) (inp : Inputs) :
    SameLiveOutcome (mainStep inp s) (mainStep inp t) := by
  have hseq : s.seq = t.seq := by rw [State.seq, State.seq, h.phase, h.dstate]
  by_cases hclock : inp.now < s.inputs.now
  · rw [mainStep_of_clock_lt hclock, mainStep_of_clock_lt (h.inputs ▸ hclock)]
    rfl
  · have hinputs : SameLive { s with inputs := inp } { t with inputs := inp } := { h with inputs := rfl }
    have hclock := Nat.not_lt.mp hclock
    cases hdecode : decodeSeq s.seq with
    | ok i =>
      rw [mainStep_of_decodeSeq_ok hclock hdecode, mainStep_of_decodeSeq_ok (h.inputs ▸ hclock) (hseq ▸ hdecode)]
      exact hinputs.exec_main hdecode
    | error e =>
      obtain ⟨w⟩ := e
      rw [mainStep_of_decodeSeq_error hclock hdecode,
        mainStep_of_decodeSeq_error (h.inputs ▸ hclock) (hseq ▸ hdecode)]
      rfl

/-- The release of reset gives one state, whatever the two held. -/
theorem SameLive.releaseReset (h : SameLive s t) (n : Nat) : s.releaseReset n = t.releaseReset n := by
  rw [State.releaseReset, State.releaseReset, h.cfg, h.inputs, h.script, h.envDrawn]

theorem SameLive.refl (s : State) : SameLive s s := by
  constructor <;> intros <;> trivial

/-- Outside a read and the idle delay, with the indicator off, none of the registers R48 leaves unspecified is
needed. -/
theorem SameLive.of_notNeeded (s : State) (hp : s.phase ≠ PH_DECODE ∧ s.phase ≠ PH_IDLE) (hind : s.indOn = false)
    (frame : Frame) (bitcnt : BitVec 6) (tMark tIdle tMotion : Nat) (dErr : ErrCode) (dHum dTemp : Byte) :
    SameLive s { s with
      frame := frame, bitcnt := bitcnt, tMark := tMark, tIdle := tIdle, tMotion := tMotion, dErr := dErr,
      dHum := dHum, dTemp := dTemp } :=
  { SameLive.refl s with
    inRead := fun hr => absurd hr hp.1, resultCode := fun hr => absurd hr hp.1, result := fun hr => absurd hr hp.1
    idle := fun hidle => absurd hidle hp.2, motion := fun hon => absurd (hind.symm.trans hon) Bool.false_ne_true }

theorem SameLive.step (h : SameLive s t) : SameLiveOutcome (step s) (step t) := by
  have htake := h.takeItem
  have hitem := h.nextItem.symm
  cases hs : s.nextItem with
  | main now sda bs bp =>
    rw [step_of_nextItem_main hs, step_of_nextItem_main (hitem.trans hs)]
    exact htake.mainStep _
  | capture src edge =>
    rw [step_of_nextItem_capture hs, step_of_nextItem_capture (hitem.trans hs)]
    exact htake.exec_capture (decodeEv_agent _)
  | reset n =>
    rw [step_of_nextItem_reset hs, step_of_nextItem_reset (hitem.trans hs), resetStep, resetStep, htake.inputs,
      htake.releaseReset]
    split
    · rfl
    · exact SameLive.refl _

/-- Runs from such states stop alike or reach such states. -/
theorem SameLive.run (h : SameLive s t) (n : Nat) :
    SameLiveOutcome (Sys2Proof.core.run n s) (Sys2Proof.core.run n t) := by
  induction n generalizing s t with
  | zero => exact h
  | succ n ih =>
    have hstep := h.step
    rw [run_succ, run_succ]
    cases hs : Machine.step s <;> cases ht : Machine.step t <;> rw [hs, ht] at hstep
    case next.next => exact ih hstep
    case fault.fault | refused.refused => exact hstep
    all_goals exact hstep.elim

end

/-! ## The statements -/

/-- Settles O56, by the kind of the next item, which the two states share, and by the operation at `seq`. -/
theorem stepReadsOnlyLiveRegisters : Obligations.StepReadsOnlyLiveRegisters := fun _ _ => SameLive.step

/-- Settles O57: at `PH_POLL` with the indicator off none of the eight registers is needed, and every run keeps
the two states alike. -/
theorem unspecifiedResetValuesUnseen : Obligations.UnspecifiedResetValuesUnseen := by
  intro c n0 script d n frame bitcnt tMark tIdle tMotion dErr dHum dTemp
  exact SameLive.run (SameLive.of_notNeeded { State.resetWith c n0 with script := script, envDrawn := d }
    (show PH_POLL ≠ PH_DECODE ∧ PH_POLL ≠ PH_IDLE by decide) rfl
    frame bitcnt tMark tIdle tMotion dErr dHum dTemp) n

end Sys2Proof.Machine
end

section
/-! The rules about the whole machine: writers, flags, the sticky fault, reports, inputs, and the values at reset
(R20, R22 to R25, R38, R40, R47, R48, R62). -/

namespace Sys2Proof.Machine

/-! ## Writers, flags and the sticky fault, from the frame of each operation -/

/-- In a state that owns the line, the call and the end of the request pulse alone change it (R34, R47). -/
theorem Move.sdaOe_writers {i : Instr} {s t : State} (h : Move i s t) (howned : s.lineOwned)
    (hne : t.sdaOe ≠ s.sdaOe) : i = .loopPoll ∨ i = .decReq := by
  obtain ⟨hi, -⟩ | ⟨hi, -⟩ | ⟨hd, ho, -⟩ | ⟨ho, -⟩ := h.line
  · exact .inl hi
  · exact .inr hi
  · have hreleased : s.sdaOe = false := Bool.eq_false_of_not_eq_true (mt howned.mp hd)
    exact absurd (ho.trans hreleased.symm) hne
  · exact absurd ho hne

/-- Settles O40: the frame of each operation gives every clause but the line's, which is what its move does. -/
theorem singleWriters : Obligations.SingleWriters := by
  intro i s t h
  have hline (howned : s.lineOwned) (hdecode : decodeSeq s.seq = .ok i) :
      t.sdaOe ≠ s.sdaOe → i = .loopPoll ∨ i = .decReq :=
    (exec_move hdecode h).sdaOe_writers howned
  have hframe := exec_eq_withWritesOf h
  refine ⟨?_, ?_, ?_, ?_, ?_, ?_, hline, ?_⟩
  all_goals
    rw [hframe]
    clear hline hframe h
    cases i <;> simp [State.withWritesOf, Instr.agent, State.seq]

theorem exec_invOvf_kept {i : Instr} {s t : State} (h : exec i s = .next t) (hi : i ≠ .loopDrin) :
    t.invOvf = s.invOvf := by
  rw [exec_eq_withWritesOf h]
  cases i
  case loopDrin => exact absurd rfl hi
  all_goals rfl

/-- LOOP.DRIN sets the sticky fault only at the top count, which holds (R188). -/
theorem execLoopDrin_invOvf {s t : State} (h : exec .loopDrin s = .next t) :
    t.invOvf = s.invOvf ∨ (s.fIn = true ∧ s.inv = 2 ^ s.cfg.cw - 1 ∧ t.inv = s.inv ∧ t.invOvf = true) := by
  obtain ⟨hf, rfl⟩ | ⟨-, rfl⟩ := execLoopDrin_cases h
  · obtain ⟨htop, hinv, hovf⟩ | ⟨-, -, hovf⟩ := (s.putFlag .transitIn false).invIncrement_cases
    · exact .inr ⟨hf, htop, hinv, hovf⟩
    · exact .inl hovf
  · exact .inl rfl

/-- Settles O39: by R47 only LOOP.DRIN writes the fault, and it only sets it. -/
theorem overflowIsSticky : Obligations.OverflowIsSticky := by
  intro i s t h
  have kept (hsame : t.invOvf = s.invOvf) :
      (s.invOvf = true → t.invOvf = true) ∧ (s.invOvf = false → t.invOvf = true → i = .loopDrin ∧ s.fIn = true ∧
        s.inv = 2 ^ s.cfg.cw - 1 ∧ t.inv = s.inv) :=
    ⟨hsame.trans, fun hoff hon => absurd (hoff.symm.trans (hsame.symm.trans hon)) Bool.false_ne_true⟩
  by_cases hi : i = .loopDrin
  · subst hi
    obtain hsame | ⟨hf, htop, hinv, hon⟩ := execLoopDrin_invOvf h
    · exact kept hsame
    · exact ⟨fun _ => hon, fun _ _ => ⟨rfl, hf, htop, hinv⟩⟩
  · exact kept (exec_invOvf_kept h hi)

/-! ## The flags under MAIN (R38, R168) -/

/-- A MAIN operation other than the flag's own drain leaves it. -/
theorem exec_flag_kept {i : Instr} {s t : State} (hmain : i.agent = .main) (h : exec i s = .next t) :
    (i ≠ .loopDrin → t.fIn = s.fIn) ∧ (i ≠ .loopDrout → t.fOut = s.fOut) ∧
      (i ≠ .loopDrmot → t.fMotion = s.fMotion) := by
  rw [exec_eq_withWritesOf h]
  cases i
  case loopDrin => exact ⟨fun hi => absurd rfl hi, fun _ => rfl, fun _ => rfl⟩
  case loopDrout => exact ⟨fun _ => rfl, fun hi => absurd rfl hi, fun _ => rfl⟩
  case loopDrmot => exact ⟨fun _ => rfl, fun _ => rfl, fun hi => absurd rfl hi⟩
  case evtIn | evtOut | evtMot => exact absurd hmain (by decide)
  all_goals exact ⟨fun _ => rfl, fun _ => rfl, fun _ => rfl⟩

theorem execLoopDrin_fIn {s t : State} (h : exec .loopDrin s = .next t) : t.fIn = false := by
  obtain ⟨-, rfl⟩ | ⟨hf, rfl⟩ := execLoopDrin_cases h
  · simp [State.itemEntered]
  · exact hf

theorem execLoopDrout_fOut {s t : State} (h : exec .loopDrout s = .next t) : t.fOut = false := by
  obtain ⟨-, rfl⟩ | ⟨hf, rfl⟩ := execLoopDrout_cases h
  · rfl
  · exact hf

theorem execLoopDrmot_fMotion {s t : State} (h : exec .loopDrmot s = .next t) : t.fMotion = false := by
  obtain ⟨-, -, rfl⟩ | ⟨-, -, rfl⟩ | ⟨hf, rfl⟩ := execLoopDrmot_cases h
  · rfl
  · rfl
  · exact hf

/-- Settles O42: a flag is left by every operation but its drain, and its drain leaves it 0. -/
theorem mainOnlyClearsFlags : Obligations.MainOnlyClearsFlags := by
  intro i s t hmain h
  obtain ⟨keepIn, keepOut, keepMotion⟩ := exec_flag_kept hmain h
  have clearIn (hi : i = .loopDrin) : t.fIn = false := execLoopDrin_fIn (hi ▸ h)
  have clearOut (hi : i = .loopDrout) : t.fOut = false := execLoopDrout_fOut (hi ▸ h)
  have clearMotion (hi : i = .loopDrmot) : t.fMotion = false := execLoopDrmot_fMotion (hi ▸ h)
  have onlyClears {drain : Instr} {before after : Bool} (keep : i ≠ drain → after = before)
      (clear : i = drain → after = false) (hset : after = true) : before = true := by
    by_cases hi : i = drain
    · exact absurd ((clear hi).symm.trans hset) Bool.false_ne_true
    · exact (keep hi).symm.trans hset
  exact ⟨onlyClears keepIn clearIn, onlyClears keepOut clearOut, onlyClears keepMotion clearMotion, keepIn, keepOut,
    keepMotion, clearIn, clearOut, clearMotion⟩

/-! ## Clock, parameters and reports (R23, R24, R44) -/

/-- Settles O38: a MAIN item or a reset brings a clock value not below the last, and nothing writes the parameters. -/
theorem clockForwardParametersFixed : Obligations.ClockForwardParametersFixed := by
  intro s t h
  obtain ⟨now, sda, bs, bp, i, -, hclock, hm⟩ | ⟨src, edge, -, rfl | ⟨f, rfl⟩⟩ | ⟨n, -, hclock, rfl⟩ := step_moves h
  · obtain ⟨hcfg, hinputs, -⟩ := hm.env
    rw [hcfg, hinputs]
    exact ⟨hclock, s.takeItem_cfg⟩
  · simp
  · simp [State.setFlag]
  · exact ⟨hclock, s.takeItem_cfg⟩

/-- A move emits nothing or one record. -/
theorem Move.report {i : Instr} {s t : State} (h : Move i s t) :
    t.report = s.report ∨ ∃ r, t.report = s.report ++ [r] := by
  cases h
  case usesReading | reportsFault | drainsOut | drainsMotionOff | coolsDown | starts => exact .inr ⟨_, rfl⟩
  case drainsIn => simp [State.itemEntered]
  all_goals exact .inl rfl

/-- Settles O47: a move emits at most one record, a CAPTURE operation none. -/
theorem atMostOneReportPerStep : Obligations.AtMostOneReportPerStep := by
  intro s t h hnoreset
  obtain ⟨now, sda, bs, bp, i, -, -, hm⟩ | ⟨src, edge, -, rfl | ⟨f, rfl⟩⟩ | ⟨n, hitem, -⟩ := step_moves h
  · simpa using hm.report
  · exact .inl s.takeItem_report
  · simp [State.setFlag]
  · exact absurd hitem (hnoreset n)

/-! ## The input ports (R20, R62) -/

/-- `s` with other levels at its ports, at the same time. -/
def State.withLevels (s : State) (sda bs bp : Bool) : State := { s with inputs := ⟨s.inputs.now, sda, bs, bp⟩ }

/-- Two branches on a test that the levels do not reach. -/
theorem State.withLevels_ite {p q : Prop} [Decidable p] [Decidable q] {sda bs bp : Bool} {a b a' b' : State}
    (htest : q ↔ p) (hyes : a' = a.withLevels sda bs bp) (hno : b' = b.withLevels sda bs bp) :
    (if q then a' else b') = (if p then a else b).withLevels sda bs bp := by
  by_cases hp : p
  · rw [if_pos hp, if_pos (htest.mpr hp), hyes]
  · rw [if_neg hp, if_neg (mt htest.mp hp), hno]

theorem State.setSeq_withLevels {a a' : State} {sda bs bp : Bool} {p : Phase} {d : DState}
    (h : a' = a.withLevels sda bs bp) : a'.setSeq p d = (a.setSeq p d).withLevels sda bs bp := by
  rw [h]
  rfl

theorem State.drain_withLevels (s : State) (f : EdgeFlag) {action : State → State} (sda bs bp : Bool)
    (haction : ∀ u : State, action (u.withLevels sda bs bp) = (action u).withLevels sda bs bp) :
    (s.withLevels sda bs bp).drain f action = (s.drain f action).withLevels sda bs bp := by
  have hput : (s.withLevels sda bs bp).putFlag f false = (s.putFlag f false).withLevels sda bs bp := by
    cases f <;> rfl
  have hflag : (s.withLevels sda bs bp).flag f = s.flag f := by cases f <;> rfl
  refine State.withLevels_ite (by rw [State.testAndClear, State.testAndClear, hflag]) ?_ hput
  rw [State.testAndClear, State.testAndClear, hput]
  exact haction _

theorem State.itemEntered_withLevels (s : State) (sda bs bp : Bool) :
    (s.withLevels sda bs bp).itemEntered = s.itemEntered.withLevels sda bs bp := by
  have hinc : (s.withLevels sda bs bp).invIncrement = s.invIncrement.withLevels sda bs bp :=
    State.withLevels_ite Iff.rfl rfl rfl
  rw [State.itemEntered, hinc]
  rfl

/-- An operation reads the line only where it is one of the six that sample it, and the buttons only where it is
LOOP.BTN: at other levels that agree in that, the same next state but for the ports. -/
theorem exec_withLevels {i : Instr} {s t : State} (h : exec i s = .next t) {sda bs bp : Bool}
    (hline : i ∈ [.decTurn, .decAckl, .decAckh, .decBith, .decBitd, .decBitl] → s.inputs.sdaIn = sda)
    (hbtn : i = .loopBtn → s.inputs.btnStart = bs ∧ s.inputs.btnStop = bp) :
    exec i (s.withLevels sda bs bp) = .next (t.withLevels sda bs bp) := by
  cases i <;> obtain rfl := Host.Outcome.next.inj h <;> refine congrArg Host.Outcome.next ?_
  case decTurn =>
    obtain rfl := hline (by decide)
    exact State.withLevels_ite Iff.rfl (State.withLevels_ite Iff.rfl rfl rfl) rfl
  case decAckl | decAckh | decBith | decBitl =>
    obtain rfl := hline (by decide)
    exact State.withLevels_ite Iff.rfl rfl (State.withLevels_ite Iff.rfl rfl rfl)
  case decBitd =>
    obtain rfl := hline (by decide)
    exact State.withLevels_ite Iff.rfl rfl rfl
  case loopBtn =>
    obtain ⟨rfl, rfl⟩ := hbtn rfl
    have hsample : (s.withLevels sda s.inputs.btnStart s.inputs.btnStop).sampleButtons =
        s.sampleButtons.withLevels sda s.inputs.btnStart s.inputs.btnStop :=
      State.withLevels_ite Iff.rfl rfl rfl
    rw [hsample]
    exact State.setSeq_withLevels (a := { s.sampleButtons with tIdle := s.nowStamp }) rfl
  case loopPoll | decReq | decChk | loopIdle => exact State.withLevels_ite Iff.rfl rfl rfl
  case loopRet =>
    have huse : (s.withLevels sda bs bp).useResult = s.useResult.withLevels sda bs bp :=
      State.withLevels_ite Iff.rfl rfl rfl
    rw [huse]
    rfl
  case loopDrin =>
    exact State.setSeq_withLevels (s.drain_withLevels _ sda bs bp fun u => u.itemEntered_withLevels sda bs bp)
  case loopDrout => exact State.setSeq_withLevels (s.drain_withLevels _ sda bs bp fun _ => rfl)
  case loopDrmot =>
    exact State.setSeq_withLevels (s.drain_withLevels _ sda bs bp fun _ => State.withLevels_ite Iff.rfl rfl rfl)
  case loopCool => exact State.setSeq_withLevels (State.withLevels_ite Iff.rfl rfl rfl)
  all_goals rfl

/-- Settles O55: the two kinds of level as one change of the ports, which no operation writes. -/
theorem inputsReadOnlyWhereNamed : Obligations.InputsReadOnlyWhereNamed := by
  intro i s t sda bs bp h
  obtain ⟨-, hinputs, -⟩ := exec_env h
  rw [hinputs]
  have hwith (sda bs bp : Bool) :
      t.withLevels sda bs bp = { t with inputs := ⟨s.inputs.now, sda, bs, bp⟩ } := by
    rw [State.withLevels, hinputs]
  constructor
  · intro hi
    exact (exec_withLevels h (fun hmem => absurd hmem hi) fun _ => ⟨rfl, rfl⟩).trans (congrArg _ (hwith _ _ _))
  · intro hi
    exact (exec_withLevels h (fun _ => rfl) fun hmem => absurd hmem hi).trans (congrArg _ (hwith _ _ _))

/-! ## Time and outputs (R22, R25, R43) -/

/-- Settles O27: `elapsed` is the difference modulo `2^TW`, which is the difference itself below `2^TW`. -/
theorem elapsedIsTrueTime : Obligations.ElapsedIsTrueTime := by
  intro s t0 hle hlt
  have hint : ((s.elapsed (t0 % 2 ^ s.cfg.tw) : Nat) : Int) = (s.inputs.now : Int) - t0 := by
    rw [State.elapsed, elapsedMod_eq_emod]
    exact s.since_stamp t0 hle hlt
  omega

/-- Settles O30, by the two values of `m2_on`. -/
theorem outputsFollowRegisters : Obligations.OutputsFollowRegisters := by
  intro s
  cases hm2 : s.m2On <;> simp [State.outputs, m2Command, hm2]

/-! ## Reset (R48, R280, R282) -/

/-- Settles O31: each value is read off the reset state. -/
theorem resetValues : Obligations.ResetValues := by
  intro c n
  have hword : decodeSeq (PH_POLL ++ D_IDLE) = .ok .loopPoll := by decide
  exact ⟨rfl, rfl, rfl, rfl, rfl, rfl, rfl, rfl, rfl, rfl, rfl, rfl, rfl, rfl, rfl, hword⟩

theorem resetStep_of_clock_le {n : Nat} {s : State} (hclock : s.inputs.now ≤ n) :
    resetStep n s = .next (s.releaseReset n) := by
  rw [resetStep, if_neg (Nat.not_lt.mpr hclock)]

/-- Settles O10: the step releases reset, whose registers are those of the reset state on the same parameters. -/
theorem resetReleasesEverything : Obligations.ResetReleasesEverything := by
  intro s n hitem hclock
  have hlast : s.takeItem.inputs.now ≤ n := by simpa using hclock
  have hpoll : (s.takeItem.releaseReset n).tPoll = n % 2 ^ s.cfg.tw := by
    rw [← s.takeItem_cfg]
    rfl
  refine ⟨s.takeItem.releaseReset n, ?_, rfl, rfl, rfl, hpoll, rfl, rfl, rfl, rfl, rfl, rfl, rfl, rfl, rfl, rfl, rfl,
    s.takeItem_cfg, rfl⟩
  rw [step_of_nextItem_reset hitem, resetStep_of_clock_le hlast]

end Sys2Proof.Machine
end

section
/-! CAPTURE against CAPTURE and against the drain of a flag: edges are stores of 1 that commute, and an edge is
drained once or left pending (R66, R67, R73, R160, R165, R296). -/

namespace Sys2Proof.Machine

/-! ## CAPTURE operations as one store (R67, R160) -/

/-- The flags after a CAPTURE operation `i`: the one it stores to is 1, the others stay. -/
def State.withEdge (s : State) (i : Instr) : State :=
  { s with
    fIn := s.fIn || decide (i = .evtIn), fOut := s.fOut || decide (i = .evtOut),
    fMotion := s.fMotion || decide (i = .evtMot) }

theorem exec_of_capture {i : Instr} (hi : i.agent = .capture) (s : State) : exec i s = .next (s.withEdge i) := by
  cases i
  case evtIn | evtOut | evtMot =>
    simp [exec, execEvtIn, execEvtOut, execEvtMot, State.setFlag, State.putFlag, State.withEdge]
  case evtIgnInRise | evtIgnOutRise | evtIgnMotFall | evtIgnOtherFall | evtIgnOtherRise =>
    simp [exec, execEvtIgnInRise, execEvtIgnOutRise, execEvtIgnMotFall, execEvtIgnOtherFall, execEvtIgnOtherRise,
      State.withEdge]
  all_goals exact absurd hi (by decide)

theorem State.withEdge_comm (s : State) (i j : Instr) : (s.withEdge i).withEdge j = (s.withEdge j).withEdge i := by
  simp only [State.withEdge, Bool.or_right_comm]

theorem State.withEdge_idem (s : State) (i : Instr) : (s.withEdge i).withEdge i = s.withEdge i := by
  simp only [State.withEdge, Bool.or_assoc, Bool.or_self]

/-- Settles O43: each operation ors its own bit into the flags. -/
theorem captureOperationsCommute : Obligations.CaptureOperationsCommute := by
  intro i j s hi hj
  refine ⟨s.withEdge i, s.withEdge j, (s.withEdge i).withEdge j, exec_of_capture hi s, exec_of_capture hj s,
    exec_of_capture hj _, ?_, ?_⟩
  · rw [exec_of_capture hi, s.withEdge_comm]
  · rw [exec_of_capture hi, s.withEdge_idem]

/-! ## Each flag with its edge, its drain and the action of the drain (R161 to R163, R188, R190, R192) -/

/-- The CAPTURE operation that sets the flag. -/
def EdgeFlag.edge : EdgeFlag → Instr
  | .transitIn => .evtIn
  | .transitOut => .evtOut
  | .motion => .evtMot

/-- The MAIN operation that drains the flag. -/
def EdgeFlag.drainOp : EdgeFlag → Instr
  | .transitIn => .loopDrin
  | .transitOut => .loopDrout
  | .motion => .loopDrmot

/-- The phase that follows the drain of the flag. -/
def EdgeFlag.phaseAfterDrain : EdgeFlag → Phase
  | .transitIn => PH_DRAIN_OUT
  | .transitOut => PH_DRAIN_MOTION
  | .motion => PH_COOLDOWN

/-- What the drain does where the flag was set. -/
def EdgeFlag.action : EdgeFlag → State → State
  | .transitIn => State.itemEntered
  | .transitOut => State.itemRemoved
  | .motion => State.motionSeen

theorem exec_edge (f : EdgeFlag) (s : State) : exec f.edge s = .next (s.setFlag f) := by cases f <;> rfl

theorem exec_drainOp (f : EdgeFlag) (s : State) :
    exec f.drainOp s = .next ((s.drain f f.action).setSeq f.phaseAfterDrain D_IDLE) := by cases f <;> rfl

/-! ## A flag read after a store, an action or a move of the sequencer -/

@[simp] theorem State.putFlag_flag_same (s : State) (f : EdgeFlag) (b : Bool) : (s.putFlag f b).flag f = b := by
  cases f <;> rfl

@[simp] theorem State.setSeq_flag (s : State) (p : Phase) (d : DState) (f : EdgeFlag) :
    (s.setSeq p d).flag f = s.flag f := by cases f <;> rfl

/-- An action leaves its flag as the drain left it. -/
@[simp] theorem State.action_flag (s : State) (f : EdgeFlag) : (f.action s).flag f = s.flag f := by
  cases f
  case transitIn => exact s.invIncrement_fIn
  case transitOut => rfl
  case motion =>
    change s.motionSeen.fMotion = s.fMotion
    unfold State.motionSeen
    split <;> rfl

/-- The drain of a flag just stored acts, on the state with the flag cleared (R73). -/
theorem State.drain_setFlag (s : State) (f : EdgeFlag) (action : State → State) :
    (s.setFlag f).drain f action = action (s.putFlag f false) := by
  rw [State.drain, s.testAndClear_setFlag, if_pos rfl]

/-! ## What counts as acted once, and as not acted -/

@[simp] theorem State.actedOnce_putFlag_left (s t : State) (f g : EdgeFlag) (b : Bool) :
    (s.putFlag g b).actedOnce t f ↔ s.actedOnce t f := by cases f <;> simp [State.actedOnce]

@[simp] theorem State.actedOnce_putFlag_right (s t : State) (f g : EdgeFlag) (b : Bool) :
    s.actedOnce (t.putFlag g b) f ↔ s.actedOnce t f := by cases f <;> simp [State.actedOnce]

@[simp] theorem State.actedOnce_setSeq_right (s t : State) (f : EdgeFlag) (p : Phase) (d : DState) :
    s.actedOnce (t.setSeq p d) f ↔ s.actedOnce t f := by cases f <;> rfl

theorem State.notActed_putFlag_setSeq (s : State) (f : EdgeFlag) (b : Bool) (p : Phase) (d : DState) :
    s.notActed ((s.setSeq p d).putFlag f b) := by simp [State.notActed]

/-- Below the top the count goes up by one without wrapping; at the top it holds, with the sticky fault (R188). -/
theorem State.itemEntered_actedOnce (s : State) : s.actedOnce s.itemEntered .transitIn := by
  have hreport : s.itemEntered.report = s.report ++ [⟨.entered, s.itemEntered.inv, 0⟩] :=
    congrArg (· ++ _) s.invIncrement_report
  obtain ⟨htop, hinv, hovf⟩ | ⟨htop, hinv, hovf⟩ := s.invIncrement_cases
  · exact ⟨fun hlt => absurd htop hlt.ne, fun _ => ⟨hinv, hovf⟩, hreport⟩
  · have hnowrap (hlt : s.inv < 2 ^ s.cfg.cw - 1) : s.itemEntered.inv = s.inv + 1 :=
      hinv.trans (Nat.mod_eq_of_lt (by omega))
    exact ⟨fun hlt => ⟨hnowrap hlt, hovf⟩, fun heq => absurd heq htop, hreport⟩

/-- The indicator goes on with its stamp rewritten, the record only where it was off (R192). -/
theorem State.motionSeen_actedOnce (s : State) : s.actedOnce s.motionSeen .motion := by
  cases hi : s.indOn <;> simp [State.actedOnce, State.motionSeen, hi, State.nowStamp, stampOf]

theorem State.action_actedOnce (s : State) (f : EdgeFlag) : s.actedOnce (f.action s) f := by
  cases f
  case transitIn => exact s.itemEntered_actedOnce
  case transitOut => exact ⟨rfl, rfl⟩
  case motion => exact s.motionSeen_actedOnce

/-! ## An edge and the drain of its flag, in either order (R73, R296) -/

theorem edge_then_drain (s : State) (f : EdgeFlag) :
    ∃ a b, exec f.edge s = .next a ∧ exec f.drainOp a = .next b ∧ b.flag f = false ∧ s.actedOnce b f := by
  refine ⟨_, _, exec_edge f s, exec_drainOp f _, ?_⟩
  rw [s.drain_setFlag]
  have hacted := (s.putFlag f false).action_actedOnce f
  exact ⟨by simp, by simpa using hacted⟩

theorem drain_then_edge (s : State) (f : EdgeFlag) :
    ∃ a b, exec f.drainOp s = .next a ∧ exec f.edge a = .next b ∧ b.flag f = true ∧
      (s.flag f = true → s.actedOnce b f) ∧ (s.flag f = false → s.notActed b) := by
  refine ⟨_, _, exec_drainOp f s, exec_edge f _, State.putFlag_flag_same _ f true, ?_⟩
  obtain ⟨hset, hdrain⟩ | ⟨hclear, hdrain⟩ := s.drain_cases f f.action
  · have hacted := (s.putFlag f false).action_actedOnce f
    rw [hdrain]
    exact ⟨fun _ => by simpa [State.setFlag] using hacted,
      fun hclear => absurd (hset.symm.trans hclear) Bool.false_ne_true.symm⟩
  · rw [hdrain]
    exact ⟨fun hset => absurd (hclear.symm.trans hset) Bool.false_ne_true,
      fun _ => s.notActed_putFlag_setSeq f true _ _⟩

/-- Settles O45: the three pairs are each flag's edge and drain, and both orders hold for every flag. -/
theorem edgeNeverLostAtDrain : Obligations.EdgeNeverLostAtDrain := by
  have both (s : State) (f : EdgeFlag) := And.intro (edge_then_drain s f) (drain_then_edge s f)
  intro s f edge drain hpair
  obtain ⟨rfl, rfl, rfl⟩ | ⟨rfl, rfl, rfl⟩ | ⟨rfl, rfl, rfl⟩ := by simpa only [Prod.mk.injEq] using hpair
  · exact both s .transitIn
  · exact both s .transitOut
  · exact both s .motion

end Sys2Proof.Machine
end

section
/-! The two dispatchers against the encoder and the event pairs, and the reserved sequencer words as `seqLegal`
says them (R95 to R101). -/

namespace Sys2Proof.Machine

/-! ## Words and operations (R96, R100) -/

open Laws.RoundTrip in
theorem decode_encode (i : Instr) : decode (encode i) = .ok i := by
  have roundTrip : Statement i := by
    cases i
    exacts [loopPoll, decReq, decTurn, decAckl, decAckh, decBith, decBitd, decBitl, decChk, loopRet, loopDrin,
      loopDrout, loopDrmot, loopCool, loopBtn, loopIdle, evtIn, evtIgnInRise, evtOut, evtIgnOutRise, evtIgnMotFall,
      evtMot, evtIgnOtherFall, evtIgnOtherRise]
  exact roundTrip.1

/-- Row by row of MAIN's table (R96). -/
theorem encode_of_decodeSeq {w : SeqWord} {i : Instr} (h : decodeSeq w = .ok i) : encode i = .seq w := by
  unfold decodeSeq at h
  split at h <;> cases h <;> rfl

/-- CAPTURE's table has a row for each of the eight event words (R100, R101). -/
theorem encode_decodeEv (w : EvWord) : encode (decodeEv w) = .ev w := by
  revert w
  decide

/-! ## Reserved words (R98) -/

/-- The one reason MAIN's dispatcher rejects a word names that word. -/
theorem eq_reservedSeq_of_decodeSeq {w : SeqWord} {e : DecodeError} (h : decodeSeq w = .error e) :
    e = .reservedSeq w := by
  unfold decodeSeq at h
  split at h <;> cases h
  rfl

/-- MAIN's dispatcher rejects `seq` exactly where R28 does not admit it. -/
theorem State.decodeSeq_reserved_iff (s : State) : decodeSeq s.seq = .error (.reservedSeq s.seq) ↔ ¬ s.seqLegal := by
  rw [s.seqLegal_iff]
  cases hdecode : decodeSeq s.seq with
  | ok i => simp
  | error e => simp [eq_reservedSeq_of_decodeSeq hdecode]

/-! ## The statements -/

/-- Settles O1: ten rows of the two tables, each looked up. -/
theorem sampleWordsDecode : Obligations.SampleWordsDecode :=
  ⟨rfl, rfl, rfl, rfl, rfl, rfl, rfl, rfl, rfl, rfl⟩

/-- Settles O2, by the operation. -/
theorem encodeThenDecode : Obligations.EncodeThenDecode := decode_encode

/-- Settles O3, by the format of the word. -/
theorem decodeThenEncode : Obligations.DecodeThenEncode := by
  intro w i hdecode
  cases w with
  | seq w => exact encode_of_decodeSeq hdecode
  | ev w =>
    obtain rfl : decodeEv w = i := by simpa [decode] using hdecode
    exact encode_decodeEv w

/-- Settles O4: a word is reserved where `seqLegal` fails at a state that holds it, which R98 spells out for the
phase of a read and for the others. -/
theorem reservedWordsRejected : Obligations.ReservedWordsRejected := by
  intro p d
  have hreserved := ({ State.reset with phase := p, dstate := d } : State).decodeSeq_reserved_iff
  refine hreserved.trans ?_
  by_cases hp : p = PH_DECODE
  · have hrange : ¬ (D_REQ ≤ d ∧ d ≤ D_DONE) ↔ d = 0b0000#4 ∨ 0b1010#4 ≤ d := by bv_omega
    simpa [State.seqLegal, hp] using hrange
  · simp [State.seqLegal, hp]

/-- Settles O5: the three pairs are rows of R100, and each of the five others selects an EVT.IGN. -/
theorem eventPairsDispatch : Obligations.EventPairsDispatch := by
  refine ⟨rfl, rfl, rfl, fun src edge s hin hout hmot => ?_⟩
  cases src <;> cases edge
  case transitIn.falling => exact absurd rfl hin
  case transitOut.falling => exact absurd rfl hout
  case motion.rising => exact absurd rfl hmot
  all_goals rfl

/-- Settles O8: the clock test passes, and MAIN's dispatcher rejects the word that taking the item left in `seq`. -/
theorem reservedSeqFaults : Obligations.ReservedSeqFaults := by
  intro s now sda bs bp hitem hclock hreserved
  have hlast : s.takeItem.inputs.now ≤ now := by simpa using hclock
  have hseq : decodeSeq s.takeItem.seq = .error (.reservedSeq s.seq) := by
    rw [s.takeItem_seq]
    exact s.decodeSeq_reserved_iff.mpr hreserved
  rw [step_of_nextItem_main hitem, mainStep_of_decodeSeq_error hlast hseq]

end Sys2Proof.Machine
end

section
/-! A run stops with a fault only at a state whose word is reserved, and from reset there is none (R97, R98). -/

namespace Sys2Proof.Machine

/-- A property that every step keeps, and at which no step faults, keeps every run from faulting. -/
theorem run_ne_fault {P : State → Prop} (hkeep : ∀ s t, P s → step s = .next t → P t)
    (hsafe : ∀ s f, P s → step s ≠ .fault f) {s : State} (hs : P s) (n : Nat) (f : Fault) :
    Sys2Proof.core.run n s ≠ .fault f := by
  induction n generalizing s with
  | zero => exact nofun
  | succ n ih =>
    rw [run_succ]
    cases hstep : step s with
    | next t => exact ih (hkeep s t hs hstep)
    | fault g => exact absurd hstep (hsafe s g hs)
    | refused r => exact nofun

theorem step_ne_fault_of_seqLegal {s : State} (hs : s.seqLegal) (f : Fault) : step s ≠ .fault f := fun h =>
  s.decodeSeq_reserved_iff.mp (step_fault h) hs

/-- Settles O37: `seq` is legal at reset and after every step, and no step at a legal word faults. -/
theorem noFaultFromReset : Obligations.NoFaultFromReset := by
  intro c n0 script d n f
  have hreset : ({ State.resetWith c n0 with script := script, envDrawn := d } : State).seqLegal :=
    State.resetWith_seqLegal c n0
  exact run_ne_fault seqLegalKeptByStep (fun _ f hs => step_ne_fault_of_seqLegal hs f) hreset n f

end Sys2Proof.Machine
end

section
/-! The number that a list of levels spells, and the frame into which they are shifted (R65, R91). -/

namespace Sys2Proof.Machine

/-! ## The number that levels spell -/

@[simp] theorem bitsNat_nil : bitsNat [] = 0 := rfl

theorem bitsNat_cons (b : Bool) (bits : List Bool) :
    bitsNat (b :: bits) = b.toNat * 2 ^ bits.length + bitsNat bits := by
  simp [bitsNat, List.zipIdx_succ, Function.comp_def, Nat.sub_sub, Nat.add_comm 1]

theorem bitsNat_append (hi lo : List Bool) : bitsNat (hi ++ lo) = bitsNat hi * 2 ^ lo.length + bitsNat lo := by
  induction hi with
  | nil => simp
  | cons b hi ih =>
    rw [List.cons_append, bitsNat_cons, bitsNat_cons, ih, List.length_append, pow_add]
    ring

theorem bitsNat_lt (bits : List Bool) : bitsNat bits < 2 ^ bits.length := by
  induction bits with
  | nil => decide
  | cons b bits ih =>
    have hb : b.toNat * 2 ^ bits.length ≤ 1 * 2 ^ bits.length := Nat.mul_le_mul_right _ (Bool.toNat_le b)
    rw [bitsNat_cons, List.length_cons, pow_succ]
    omega

/-- A stretch of levels, cut from the number that the whole list spells. -/
theorem bitsNat_window (pre mid post : List Bool) :
    bitsNat (pre ++ (mid ++ post)) / 2 ^ post.length % 2 ^ mid.length = bitsNat mid := by
  have hsplit : bitsNat (pre ++ (mid ++ post)) =
      2 ^ post.length * (bitsNat pre * 2 ^ mid.length + bitsNat mid) + bitsNat post := by
    rw [bitsNat_append, bitsNat_append, List.length_append, pow_add]
    ring
  rw [hsplit, Nat.mul_add_div (Nat.two_pow_pos _), Nat.div_eq_of_lt (bitsNat_lt post), Nat.add_zero,
    Nat.mul_add_mod', Nat.mod_eq_of_lt (bitsNat_lt mid)]

/-- Byte `i` of a list that is long enough for it (R65). -/
theorem bitsNat_byte {bits : List Bool} {i : Nat} (hlen : 8 * i + 8 ≤ bits.length) :
    bitsNat bits / 2 ^ (bits.length - 8 - 8 * i) % 256 = bitsByte bits i := by
  have hwindow := bitsNat_window (bits.take (8 * i)) ((bits.drop (8 * i)).take 8) ((bits.drop (8 * i)).drop 8)
  rw [List.take_append_drop, List.take_append_drop] at hwindow
  have hmid : ((bits.drop (8 * i)).take 8).length = 8 := by
    simp
    omega
  have hpost : ((bits.drop (8 * i)).drop 8).length = bits.length - 8 - 8 * i := by
    simp
    omega
  rw [hmid, hpost] at hwindow
  exact hwindow

/-! ## The frame they are shifted into (R91) -/

/-- The levels stand below what the frame held, and what leaves bit 39 is lost. -/
theorem foldl_shiftIn_toNat (bits : List Bool) (f : Frame) :
    (bits.foldl shiftIn f).toNat = (f.toNat * 2 ^ bits.length + bitsNat bits) % 2 ^ 40 := by
  induction bits generalizing f with
  | nil => simp [Nat.mod_eq_of_lt f.isLt]
  | cons b bits ih =>
    have hshift : f.toNat * 2 ^ (bits.length + 1) + (b.toNat * 2 ^ bits.length + bitsNat bits) =
        (2 * f.toNat + b.toNat) * 2 ^ bits.length + bitsNat bits := by ring
    rw [List.foldl_cons, ih, shiftIn_toNat, bitsNat_cons, List.length_cons, hshift, Nat.add_mod, Nat.mod_mul_mod,
      ← Nat.add_mod]

/-- From an empty frame, up to forty levels spell its number. -/
theorem foldl_shiftIn_zero_toNat {bits : List Bool} (hlen : bits.length ≤ 40) :
    (bits.foldl shiftIn 0#40).toNat = bitsNat bits := by
  have hfits : bitsNat bits < 2 ^ 40 := (bitsNat_lt bits).trans_le (Nat.pow_le_pow_right Nat.two_pos hlen)
  rw [foldl_shiftIn_toNat, BitVec.toNat_zero, Nat.zero_mul, Nat.zero_add, Nat.mod_eq_of_lt hfits]

/-- Settles O28: the frame is the number that the forty levels spell, and its bytes are stretches of eight. -/
theorem frameAssembly : Obligations.FrameAssembly := by
  intro bits hlen
  have hnumber : (bits.foldl shiftIn 0#40).toNat = bitsNat bits := foldl_shiftIn_zero_toNat hlen.le
  refine ⟨hnumber, fun i hi => ?_⟩
  have hbyte : 8 * i + 8 ≤ bits.length := by omega
  rw [frameByte_toNat, hnumber, ← bitsNat_byte hbyte, hlen]

end Sys2Proof.Machine
end

section
/-! The decoder's operations as the rules write them, their timers over the integers, and CAPTURE beside them (R121 to
R129, R132, R242). -/

namespace Sys2Proof.Machine

/-! ## The timer's test as a branch -/

theorem State.ite_timerDone (s u v : State) (stamp bound : Nat) :
    (if s.timerDone stamp bound then u else v) = if (bound : Int) ≤ s.since stamp then u else v :=
  if_congr (s.timerDone_iff stamp bound) rfl rfl

/-- The bounded wait, as R129 writes it. -/
theorem State.boundedWait_eq (s : State) (want : Bool) (next : DState) :
    s.boundedWait want next =
      if s.inputs.sdaIn = want then s.enterDState next
      else if (s.cfg.tWait : Int) ≤ s.since s.tMark then s.raiseDecodeFault .timeout else s := by
  rw [State.boundedWait, s.ite_timerDone]

/-! ## The results (R121 to R128) -/

/-- Settles O12. -/
theorem decReqResult : Obligations.DecReqResult :=
  ⟨rfl, fun s => congrArg Host.Outcome.next (s.ite_timerDone ((s.lineDrive false).enterDState D_TURN) s _ _)⟩

/-- Settles O13: the level is looked at only once the turnaround is over. -/
theorem decTurnResult : Obligations.DecTurnResult :=
  ⟨rfl, fun s => congrArg Host.Outcome.next
    (s.ite_timerDone (if s.lineSample then s.raiseDecodeFault .noResponse else s.enterDState D_ACKL) s _ _)⟩

/-- Settles O14: the three operations are the wait of R129 for their level. -/
theorem boundedWaitResults : Obligations.BoundedWaitResults := by
  refine ⟨rfl, rfl, rfl, fun s i want next hi => ?_⟩
  have hexec : exec i s = .next (s.boundedWait want next) := by
    obtain hi | hi | hi := hi <;> cases hi <;> rfl
  rw [hexec, s.boundedWait_eq]
  rfl

/-- The level enters the frame at bit 0 (R91). -/
theorem shiftIn_eq_ofNat (f : Frame) (b : Bool) : shiftIn f b = BitVec.ofNat 40 (2 * f.toNat + b.toNat) :=
  BitVec.eq_of_toNat_eq (by rw [shiftIn_toNat, BitVec.toNat_ofNat])

/-- Settles O15. -/
theorem decBitdResult : Obligations.DecBitdResult := by
  refine ⟨rfl, fun s => ?_⟩
  rw [← shiftIn_eq_ofNat]
  exact congrArg Host.Outcome.next
    (s.ite_timerDone ((s.takeSample s.inputs.sdaIn).enterDState D_BITL) s s.tMark s.cfg.tSample)

/-- Settles O16: the wait of R129 for a low, whose successor the count decides. -/
theorem decBitlResult : Obligations.DecBitlResult :=
  ⟨rfl, fun s => congrArg Host.Outcome.next (s.boundedWait_eq false _)⟩

/-- The bytes of a frame, cut from its number (R91); byte 0 is what is left above the others. -/
theorem frameByte_of_toNat {f : Frame} {b0 b1 b2 b3 b4 : Nat} (h1 : b1 < 256) (h2 : b2 < 256)
    (h3 : b3 < 256) (h4 : b4 < 256) (hf : f.toNat = (((b0 * 256 + b1) * 256 + b2) * 256 + b3) * 256 + b4) :
    (frameByte f 0).toNat = b0 ∧ (frameByte f 1).toNat = b1 ∧ (frameByte f 2).toNat = b2 ∧
      (frameByte f 3).toNat = b3 ∧ (frameByte f 4).toNat = b4 := by
  simp only [frameByte_toNat, hf]
  omega

/-- Settles O17: the frame is good where its fifth byte is the sum of the others, and its bytes 0 and 2 are the
reading. -/
theorem decChkResult : Obligations.DecChkResult := by
  refine ⟨rfl, fun s b0 b1 b2 b3 b4 _ h1 h2 h3 h4 hf => ?_⟩
  obtain ⟨e0, e1, e2, e3, e4⟩ := frameByte_of_toNat h1 h2 h3 h4 hf
  have hgood : frameGood s.frame = true ↔ b4 = (b0 + b1 + b2 + b3) % 256 := by
    rw [frameGood_iff, e0, e1, e2, e3, e4]
  have hhum : frameHum s.frame = BitVec.ofNat 8 b0 := by rw [← e0, BitVec.ofNat_toNat, BitVec.setWidth_eq]; rfl
  have htemp : frameTemp s.frame = BitVec.ofNat 8 b2 := by rw [← e2, BitVec.ofNat_toNat, BitVec.setWidth_eq]; rfl
  rw [← hhum, ← htemp]
  exact congrArg Host.Outcome.next (if_congr hgood rfl rfl)

/-! ## Waits end (R129, R242) -/

/-- A wait run at its own word, at or past its bound, with its level there or not. -/
theorem State.WaitAt.ends {s t : State} {i : Instr} {want : Bool} {next : DState} (hw : s.WaitAt i want next)
    (hbound : (s.cfg.tWait : Int) ≤ s.since s.tMark) (h : exec i s = .next t) :
    (s.inputs.sdaIn = want ∧ t = s.enterDState next) ∨
      (s.inputs.sdaIn ≠ want ∧ t = s.raiseDecodeFault .timeout) := by
  have hi := hw.imp And.left (Or.imp And.left (Or.imp And.left And.left))
  obtain hl | ⟨hl, -, ht⟩ | ⟨-, hearly, -⟩ := execWait_cases hi h
  · exact .inl hl
  · exact .inr ⟨hl, ht⟩
  · exact absurd hbound hearly

/-- A wait's successor is another state. -/
theorem State.WaitAt.next_ne {s : State} {i : Instr} {want : Bool} {next : DState} (hw : s.WaitAt i want next) :
    next ≠ s.dstate := by
  obtain ⟨hd, rfl⟩ | ⟨hd, rfl⟩ | ⟨hd, rfl⟩ | ⟨hd, -, rfl⟩ | ⟨hd, -, rfl⟩ := hw.dstates <;> rw [hd] <;> decide

/-- A wait is never made in `D_DONE`. -/
theorem State.WaitAt.done_ne {s : State} {i : Instr} {want : Bool} {next : DState} (hw : s.WaitAt i want next) :
    D_DONE ≠ s.dstate := by
  obtain ⟨-, hd⟩ | ⟨-, hd⟩ | ⟨-, hd⟩ | ⟨-, hd⟩ := hw <;> rw [hd] <;> decide

/-- Settles O49: at the bound a wait ends, into its successor or with a timeout. -/
theorem waitsEndAtTheirBound : Obligations.WaitsEndAtTheirBound := by
  intro s i want hi hdecode hbound
  have hw : ∃ next, s.WaitAt i want next := by
    have hplace := State.place_of_seq hdecode
    obtain hi | hi | hi | hi := hi <;> cases hi <;> obtain ⟨-, hd⟩ := Prod.mk.inj (Option.some.inj hplace)
    · exact ⟨_, .inl ⟨rfl, hd.symm⟩⟩
    · exact ⟨_, .inr (.inl ⟨rfl, hd.symm⟩)⟩
    · exact ⟨_, .inr (.inr (.inl ⟨rfl, hd.symm⟩))⟩
    · exact ⟨_, .inr (.inr (.inr ⟨rfl, hd.symm⟩))⟩
  obtain ⟨next, hw⟩ := hw
  obtain ⟨t, h⟩ := exec_answers i s
  obtain ⟨hl, rfl⟩ | ⟨hl, rfl⟩ := hw.ends hbound h
  · exact ⟨_, h, hw.next_ne, fun hne => absurd hl hne, fun _ => ⟨rfl, rfl⟩⟩
  · exact ⟨_, h, hw.done_ne, fun _ => ⟨rfl, rfl, rfl⟩, fun heq => absurd heq hl⟩

/-! ## CAPTURE beside the decoder (R132) -/

/-- Two branches on a test that does not see the flags. -/
theorem State.withEdge_ite {p : Prop} [Decidable p] (i : Instr) (a b : State) :
    (if p then a.withEdge i else b.withEdge i) = (if p then a else b).withEdge i :=
  (apply_ite (fun u : State => u.withEdge i) p a b).symm

/-- A bounded wait neither reads nor writes a flag. -/
theorem State.boundedWait_withEdge (s : State) (i : Instr) (want : Bool) (next : DState) :
    (s.withEdge i).boundedWait want next = (s.boundedWait want next).withEdge i := by
  rw [State.boundedWait, State.boundedWait, ← State.withEdge_ite, ← State.withEdge_ite]
  rfl

/-- No decoder operation reads or writes a flag. -/
theorem exec_withEdge {j : Instr}
    (hj : j ∈ [.decReq, .decTurn, .decAckl, .decAckh, .decBith, .decBitd, .decBitl, .decChk]) {s t : State}
    (h : exec j s = .next t) (i : Instr) : exec j (s.withEdge i) = .next (t.withEdge i) := by
  cases j <;> obtain rfl := Host.Outcome.next.inj h <;> refine congrArg Host.Outcome.next ?_
  case decReq | decBitd | decChk =>
    rw [← State.withEdge_ite]
    rfl
  case decTurn =>
    rw [← State.withEdge_ite, ← State.withEdge_ite]
    rfl
  case decAckl | decAckh | decBith | decBitl => exact s.boundedWait_withEdge i _ _
  all_goals exact absurd hj (by decide)

/-- Settles O44: a CAPTURE operation stores to the flags, which no decoder operation sees. -/
theorem captureAndDecoderCommute : Obligations.CaptureAndDecoderCommute := by
  intro i j s hi hj
  obtain ⟨t, h⟩ := exec_answers j s
  exact ⟨s.withEdge i, t, t.withEdge i, exec_of_capture hi s, h, exec_withEdge hj h i, exec_of_capture hi t⟩

end Sys2Proof.Machine
end

section
/-! A run by the steps along it, and the levels a read collects: the frame spells them and the result is theirs
(R91, R126, R128, R140). -/

namespace Sys2Proof.Machine

/-! ## Runs, by the steps along them -/

/-- A property indexed by the number of steps, kept by each step of the run, holds at its end. -/
theorem run_induction_at {P : Nat → State → Prop} {s : State} (hs : P 0 s) {n : Nat} {t : State}
    (hstep : ∀ k u v, k < n → Sys2Proof.core.run k s = .next u → step u = .next v → P k u → P (k + 1) v)
    (h : Sys2Proof.core.run n s = .next t) : P n t := by
  induction n generalizing t with
  | zero =>
    cases h
    exact hs
  | succ n ih =>
    obtain ⟨u, hu, hut⟩ := run_split h
    exact hstep n u t n.lt_succ_self hu hut (ih (fun k v w hk => hstep k v w (hk.trans n.lt_succ_self)) hu)

/-- A run and one more step. -/
theorem run_snoc {n : Nat} {s u v : State} (hu : Sys2Proof.core.run n s = .next u) (hv : step u = .next v) :
    Sys2Proof.core.run (n + 1) s = .next v := by
  induction n generalizing s with
  | zero =>
    cases hu
    rw [run_succ, hv]
    rfl
  | succ n ih =>
    rw [run_succ] at hu ⊢
    cases hs : step s with
    | next s' =>
      rw [hs] at hu
      exact ih hu
    | fault f => simp [hs] at hu
    | refused q => simp [hs] at hu

/-- The levels of one more step of a run. -/
theorem samplesOf_succ {n : Nat} {s u v : State} (hu : Sys2Proof.core.run n s = .next u) (hv : step u = .next v) :
    samplesOf (n + 1) s = samplesOf n s ++ u.sampled.toList := by
  induction n generalizing s with
  | zero =>
    cases hu
    simp [samplesOf, hv]
  | succ n ih =>
    rw [run_succ] at hu
    cases hs : step s with
    | next s' =>
      rw [hs] at hu
      rw [samplesOf, hs, samplesOf, hs]
      simp only [ih hu, List.append_assoc]
    | fault f => simp [hs] at hu
    | refused q => simp [hs] at hu

/-! ## The levels in the frame (R91, R126) -/

/-- The read has taken exactly these levels. -/
def State.holds (s : State) (levels : List Bool) : Prop :=
  s.frame = levels.foldl shiftIn 0#40 ∧ s.bitcnt.toNat = levels.length

/-- A frame and count just cleared hold no level (R184). -/
theorem State.holds_nil {s : State} (hframe : s.frame = 0) (hcount : s.bitcnt = 0) : s.holds [] :=
  ⟨hframe, by rw [hcount]; rfl⟩

theorem State.holds.of_eq {s t : State} {levels : List Bool} (h : s.holds levels) (hframe : t.frame = s.frame)
    (hcount : t.bitcnt = s.bitcnt) : t.holds levels := by
  rw [State.holds, hframe, hcount]
  exact h

/-- One more level, while the six bits of the count hold it. -/
theorem State.holds.sample {s t : State} {levels : List Bool} {b : Bool} (h : s.holds levels)
    (hlen : levels.length < 40) (hframe : t.frame = shiftIn s.frame b) (hcount : t.bitcnt = s.bitcnt + 1#6) :
    t.holds (levels ++ [b]) := by
  obtain ⟨hf, hc⟩ := h
  constructor
  · rw [hframe, hf, List.foldl_append, List.foldl_cons, List.foldl_nil]
  · rw [hcount, BitVec.toNat_add, hc, List.length_append, BitVec.toNat_ofNat, List.length_singleton]
    omega

/-- The frame as the number that its levels spell (R91). -/
theorem State.holds.frame_toNat {s : State} {levels : List Bool} (h : s.holds levels) (hlen : levels.length ≤ 40) :
    s.frame.toNat = bitsNat levels := by
  rw [h.1, foldl_shiftIn_zero_toNat hlen]

/-- Byte `i` of a full frame (R65). -/
theorem State.holds.frameByte_toNat {s : State} {levels : List Bool} (h : s.holds levels) (hlen : levels.length = 40)
    {i : Nat} (hi : i < 5) : (frameByte s.frame i).toNat = bitsByte levels i := by
  rw [h.1]
  exact (frameAssembly levels hlen).2 i hi

/-- The checksum of a full frame (R92). -/
theorem State.holds.frameGood_iff {s : State} {levels : List Bool} (h : s.holds levels) (hlen : levels.length = 40) :
    frameGood s.frame = true ↔ bitsGood levels := by
  rw [Machine.frameGood_iff, h.frameByte_toNat hlen (by decide), h.frameByte_toNat hlen (by decide),
    h.frameByte_toNat hlen (by decide), h.frameByte_toNat hlen (by decide), h.frameByte_toNat hlen (by decide)]

/-- What a move inside a read does to the frame: a sample where the sampling delay has run, else nothing. -/
theorem Move.frame {i : Instr} {s t : State} (h : Move i s t) (hp : s.phase = PH_DECODE) :
    (s.dstate = D_BITD ∧ (s.cfg.tSample : Int) ≤ s.since s.tMark ∧ t.frame = shiftIn s.frame s.inputs.sdaIn ∧
      t.bitcnt = s.bitcnt + 1#6) ∨
    (¬ (s.dstate = D_BITD ∧ (s.cfg.tSample : Int) ≤ s.since s.tMark) ∧ t.frame = s.frame ∧ t.bitcnt = s.bitcnt) := by
  have elsewhere {d : DState} (hd : s.dstate = d) (hne : d ≠ D_BITD) :
      ¬ (s.dstate = D_BITD ∧ (s.cfg.tSample : Int) ≤ s.since s.tMark) := fun hb => hne (hd.symm.trans hb.1)
  have wait {j : Instr} {want : Bool} {next : DState} (hw : s.WaitAt j want next) :
      ¬ (s.dstate = D_BITD ∧ (s.cfg.tSample : Int) ≤ s.since s.tMark) := by
    obtain ⟨-, hd⟩ | ⟨-, hd⟩ | ⟨-, hd⟩ | ⟨-, hd⟩ := hw <;> exact elsewhere hd (by decide)
  cases h
  case samples hd hdelay => exact .inl ⟨hd, hdelay, rfl, rfl⟩
  case releases hd _ | noResponse hd _ _ | acknowledged hd _ _ | validates hd _ | rejects hd _ | usesReading hd _
    | reportsFault hd _ => exact .inr ⟨elsewhere hd (by decide), rfl, rfl⟩
  case levelSeen hw | timesOut hw | waits hw => exact .inr ⟨wait hw, rfl, rfl⟩
  case delays hdelay hw =>
    obtain ⟨-, -, hd, -⟩ | ⟨-, -, hd, -⟩ | ⟨-, -, -, rfl, rfl⟩ | ⟨-, hp', -⟩ := hw
    · exact .inr ⟨elsewhere hd (by decide), rfl, rfl⟩
    · exact .inr ⟨elsewhere hd (by decide), rfl, rfl⟩
    · exact .inr ⟨fun hb => hdelay hb.2, rfl, rfl⟩
    · exact absurd (hp.symm.trans hp') (by decide)
  all_goals exact absurd (hp.symm.trans ‹_›) (by decide)

/-- A step inside a read takes into the frame the level that `sampled` foretells. -/
theorem step_holds {s t : State} {levels : List Bool} (h : step s = .next t) (hs : s.inRead) (ht : t.inRead)
    (hslots : s.slotsCounted) (h40 : s.cfg.nSlots = 40) (hheld : s.holds levels) :
    t.holds (levels ++ s.sampled.toList) := by
  obtain ⟨now, sda, bs, bp, i, hitem, -, hm⟩ | ⟨src, edge, hitem, hcapture⟩ | ⟨n, -, -, rfl⟩ := step_moves h
  · have hsampled : s.sampled = if s.phase = PH_DECODE ∧ s.dstate = D_BITD ∧
        (s.cfg.tSample : Int) ≤ ((now : Int) - s.tMark) % 2 ^ s.cfg.tw then some sda else none := by
      rw [State.sampled, hitem]
    obtain ⟨hd, hdelay, hframe, hcount⟩ | ⟨hno, hframe, hcount⟩ := hm.frame (s.takeItem_phase.trans hs)
    · simp only [State.since, State.takeItem_dstate, State.takeItem_cfg, State.takeItem_tMark] at hd hdelay
      have hlen : levels.length < 40 := by
        obtain ⟨-, -, -, hlt, -⟩ := hslots hs
        rw [← hheld.2, ← h40]
        exact hlt (.inr hd)
      rw [hsampled, if_pos ⟨hs, hd, hdelay⟩]
      exact hheld.sample hlen (hframe.trans (by simp)) (hcount.trans (by simp))
    · simp only [State.since, State.takeItem_dstate, State.takeItem_cfg, State.takeItem_tMark] at hno
      rw [hsampled, if_neg fun hb => hno hb.2, Option.toList_none, List.append_nil]
      exact hheld.of_eq (hframe.trans (by simp)) (hcount.trans (by simp))
  · have hsampled : s.sampled = none := by rw [State.sampled, hitem]
    rw [hsampled, Option.toList_none, List.append_nil]
    obtain rfl | ⟨f, rfl⟩ := hcapture
    · exact hheld.of_eq (by simp) (by simp)
    · exact hheld.of_eq (by simp [State.setFlag]) (by simp [State.setFlag])
  · exact absurd ht (show PH_POLL ≠ PH_DECODE by decide)

/-! ## The result in the registers (R128, R241) -/

/-- At the end of a read the result code says what the frame holds. -/
def State.resultHeld (s : State) : Prop :=
  s.phase = PH_DECODE → s.dstate = D_DONE →
    (s.dErr = .none → s.bitcnt.toNat = s.cfg.nSlots ∧ frameGood s.frame = true ∧ s.dHum = frameHum s.frame ∧
      s.dTemp = frameTemp s.frame) ∧
    (s.dErr = .checksum → s.bitcnt.toNat = s.cfg.nSlots ∧ frameGood s.frame = false) ∧
    (s.dErr = .noResponse → s.bitcnt = 0#6)

theorem State.resultHeld_of_ne {s : State} {d : DState} (hd : s.dstate = d) (hne : d ≠ D_DONE) : s.resultHeld :=
  fun _ hdone => absurd (hd.symm.trans hdone) hne

theorem State.setSeq_resultHeld (s : State) {p : Phase} (hp : p ≠ PH_DECODE) (d : DState) :
    (s.setSeq p d).resultHeld :=
  fun hread => absurd hread hp

theorem Move.resultHeld {i : Instr} {s t : State} (h : Move i s t) (hslots : s.slotsCounted)
    (hs : s.resultHeld) : t.resultHeld := by
  cases h
  case delays | waits => exact hs
  case pollCalls => exact State.resultHeld_of_ne (d := D_REQ) rfl (by decide)
  case releases => exact State.resultHeld_of_ne (d := D_TURN) rfl (by decide)
  case acknowledged => exact State.resultHeld_of_ne (d := D_ACKL) rfl (by decide)
  case samples => exact State.resultHeld_of_ne (d := D_BITL) rfl (by decide)
  case levelSeen next _ _ hw =>
    refine State.resultHeld_of_ne (d := next) rfl ?_
    obtain ⟨-, rfl⟩ | ⟨-, rfl⟩ | ⟨-, rfl⟩ | ⟨-, -, rfl⟩ | ⟨-, -, rfl⟩ := State.WaitAt.dstates hw <;> decide
  case noResponse hp hd _ _ =>
    obtain ⟨-, -, hzero, -⟩ := hslots hp
    exact fun _ _ => ⟨nofun, nofun, fun _ => hzero (hd ▸ by decide)⟩
  case timesOut => exact fun _ _ => ⟨nofun, nofun, nofun⟩
  case validates hp hd hgood =>
    obtain ⟨-, -, -, -, -, hall⟩ := hslots hp
    exact fun _ _ => ⟨fun _ => ⟨hall hd, hgood, rfl, rfl⟩, nofun, nofun⟩
  case rejects hp hd hbad =>
    obtain ⟨-, -, -, -, -, hall⟩ := hslots hp
    exact fun _ _ => ⟨nofun, fun _ => ⟨hall hd, hbad⟩, nofun⟩
  all_goals exact State.setSeq_resultHeld _ (by decide) _

/-- On an admissible configuration: the slots are counted and a result ready says what the frame holds. -/
def State.readHeld (s : State) : Prop := s.cfg.wf = true ∧ s.slotsCounted ∧ s.resultHeld

theorem readHeld_kept {s t : State} (hs : s.readHeld) (h : step s = .next t) : t.readHeld := by
  refine step_keeps (fun _ _ _ _ _ _ _ h => h) (fun i s t hm hs => ?_) (fun s n hs => ?_) hs h
  · obtain ⟨hwf, hslots, hresult⟩ := hs
    obtain ⟨hcfg, -⟩ := hm.env
    exact ⟨hcfg ▸ hwf, hm.slotsCounted hwf hslots, hm.resultHeld hslots hresult⟩
  · obtain ⟨hwf, -⟩ := hs
    exact ⟨hwf, fun hread => absurd hread (show PH_POLL ≠ PH_DECODE by decide),
      fun hread => absurd hread (show PH_POLL ≠ PH_DECODE by decide)⟩

/-- Before the first slot of a read nothing has been sampled and no result is ready. -/
theorem State.readHeld_of_cleared {s : State} (hwf : s.cfg.wf = true) {d : DState} (hd : s.dstate = d)
    (hearly : d ≤ D_BITH) (hframe : s.frame = 0) (hcount : s.bitcnt = 0) : s.readHeld := by
  refine ⟨hwf, s.slotsCounted_iff.mpr fun _ => ?_, State.resultHeld_of_ne hd ?_⟩
  · rw [nSlots_eq_of_wf hwf, hframe, hcount, hd]
    exact slotsAt_zero (by decide) hearly
  · rintro rfl
    exact absurd hearly (by decide)

/-- A result ready, in terms of the levels taken (R128, R140). -/
theorem State.readHeld.result {s : State} {levels : List Bool} (hs : s.readHeld) (hheld : s.holds levels)
    (hread : s.inRead) (hdone : s.dstate = D_DONE) :
    (s.dErr = .none → levels.length = 40 ∧ bitsGood levels ∧ s.dHum.toNat = bitsByte levels 0 ∧
      s.dTemp.toNat = bitsByte levels 2) ∧
    (s.dErr = .checksum → levels.length = 40 ∧ ¬ bitsGood levels) ∧
    (s.dErr = .noResponse → levels = []) := by
  obtain ⟨hwf, -, hresult⟩ := hs
  obtain ⟨hnone, hbad, hsilent⟩ := hresult hread hdone
  have hfull (hall : s.bitcnt.toNat = s.cfg.nSlots) : levels.length = 40 := by
    rw [← nSlots_eq_of_wf hwf, ← hall, hheld.2]
  refine ⟨fun he => ?_, fun he => ?_, fun he => ?_⟩
  · obtain ⟨hall, hgood, hhum, htemp⟩ := hnone he
    have hlen := hfull hall
    refine ⟨hlen, (hheld.frameGood_iff hlen).mp hgood, ?_, ?_⟩
    · rw [hhum]
      exact hheld.frameByte_toNat hlen (by decide)
    · rw [htemp]
      exact hheld.frameByte_toNat hlen (by decide)
  · obtain ⟨hall, hwrong⟩ := hbad he
    have hlen := hfull hall
    exact ⟨hlen, fun hgood => absurd (hwrong.symm.trans ((hheld.frameGood_iff hlen).mpr hgood)) Bool.false_ne_true⟩
  · refine List.eq_nil_of_length_eq_zero ?_
    rw [← hheld.2, hsilent he]
    rfl

/-- Settles O58: along the read the frame holds the levels sampled so far, and a result ready is the frame's. -/
theorem readResultIsTheSampledFrame : Obligations.ReadResultIsTheSampledFrame := by
  intro s t n hwf hp hd hframe hcount hrun hread
  have hs : s.readHeld := State.readHeld_of_cleared hwf hd (by decide) hframe hcount
  have ht : t.readHeld ∧ t.holds (samplesOf n s) := by
    refine run_induction_at (P := fun k u => u.readHeld ∧ u.holds (samplesOf k s))
      ⟨hs, State.holds_nil hframe hcount⟩ (fun k u v hk hu hv ⟨hheld, hlevels⟩ => ?_) hrun
    have hrun' : Sys2Proof.core.run (k + 1) s = .next v := run_snoc hu hv
    obtain ⟨hwf, hslots, -⟩ := id hheld
    rw [samplesOf_succ hu hv]
    exact ⟨readHeld_kept hheld hv, step_holds hv (hread k u hk.le hu) (hread (k + 1) v hk hrun') hslots
      (nSlots_eq_of_wf hwf) hlevels⟩
  obtain ⟨hheld, hlevels⟩ := ht
  have hlen : (samplesOf n s).length ≤ 40 := by
    obtain ⟨hwf, hslots, -⟩ := hheld
    obtain ⟨-, hle, -⟩ := hslots (hread n t le_rfl hrun)
    rw [← hlevels.2, ← nSlots_eq_of_wf hwf]
    exact hle
  exact ⟨hlevels.frame_toNat hlen, hlevels.2, hheld.result hlevels (hread n t le_rfl hrun)⟩

end Sys2Proof.Machine
end

section
/-! The length of a read: by when each state of the decoder is entered, and that every move keeps to it (R142). -/

namespace Sys2Proof.Machine

/-! ## A stamp of a true time -/

/-- The test of a timer whose stamp is the true time `mark`, less than `2^TW` ago (R25). -/
theorem State.le_since_iff {s : State} {mark : Nat} (hmark : s.tMark = mark % 2 ^ s.cfg.tw)
    (hle : mark ≤ s.inputs.now) (hlt : s.inputs.now < mark + 2 ^ s.cfg.tw) (bound : Nat) :
    (bound : Int) ≤ s.since s.tMark ↔ mark + bound ≤ s.inputs.now := by
  rw [hmark, s.since_stamp mark hle (by omega)]
  omega

/-! ## A step without a release of reset -/

/-- A property that does not look at ENV's own fields or at the edge flags is kept where ENV's item is taken, and
where a CAPTURE operation runs; where MAIN runs, it holds before the operation. -/
theorem step_takes {P : State → Prop}
    (hquiet : ∀ (s : State) (fi fo fm : Bool) (script : List EnvStep) (d : Nat), P s →
      P { s with fIn := fi, fOut := fo, fMotion := fm, script := script, envDrawn := d })
    {s t : State} (hs : P s) (h : step s = .next t) (hreset : ∀ n, s.nextItem ≠ .reset n) :
    P t ∨ ∃ now sda bs bp i, s.nextItem = .main now sda bs bp ∧ s.inputs.now ≤ now ∧ P s.takeItem ∧
      decodeSeq s.takeItem.seq = .ok i ∧ exec i { s.takeItem with inputs := ⟨now, sda, bs, bp⟩ } = .next t := by
  have htake : P s.takeItem := by
    unfold State.takeItem
    split
    · exact hquiet s s.fIn s.fOut s.fMotion _ s.envDrawn hs
    · exact hquiet s s.fIn s.fOut s.fMotion s.script _ hs
  obtain ⟨now, sda, bs, bp, i, hitem, hclock, hi, hexec⟩ | ⟨src, edge, -, hexec⟩ | ⟨n, hitem, -⟩ := step_next h
  · exact .inr ⟨now, sda, bs, bp, i, hitem, hclock, htake, s.takeItem_seq ▸ hi, hexec⟩
  · obtain rfl | ⟨f, rfl⟩ := execCapture_cases (decodeEv_agent _) hexec
    · exact .inl htake
    · cases f <;> exact .inl (hquiet s.takeItem _ _ _ s.takeItem.script s.takeItem.envDrawn htake)
  · exact absurd hitem (hreset n)

/-! ## By when each state is entered -/

/-- How long the decoder can stay in a state, but for the lateness of the step that ends it. -/
def dwell (c : Config) (d : DState) : Nat :=
  if d = D_REQ then c.tReq else if d = D_TURN then c.tTurn else if d = D_BITD then c.tSample
  else if d ≤ D_BITL then c.tWait else 0

/-- The most one slot can take: two waits, the sampling delay, three late steps. -/
def slotTime (c : Config) (g : Nat) : Nat := 2 * c.tWait + c.tSample + 3 * g

/-- The latest that the first slot can begin, from the call. -/
def firstSlotBy (c : Config) (g : Nat) : Nat := c.tReq + c.tTurn + 2 * c.tWait + 4 * g

/-- The latest that state `d` can be entered with `k` slots sampled, from the call. -/
def enteredBy (c : Config) (g : Nat) (d : DState) (k : Nat) : Nat :=
  if d = D_REQ then 0
  else if d = D_TURN then c.tReq + g
  else if d = D_ACKL then c.tReq + c.tTurn + 2 * g
  else if d = D_ACKH then c.tReq + c.tTurn + c.tWait + 3 * g
  else if d = D_BITH then firstSlotBy c g + k * slotTime c g
  else if d = D_BITD then firstSlotBy c g + k * slotTime c g + (c.tWait + g)
  else if d = D_BITL then firstSlotBy c g + k * slotTime c g - (c.tWait + g)
  else if d = D_CHK then firstSlotBy c g + c.nSlots * slotTime c g
  else firstSlotBy c g + c.nSlots * slotTime c g + g

section
variable (c : Config) (g k : Nat)

/-! Both functions state by state. -/

@[simp] theorem dwell_req : dwell c D_REQ = c.tReq := rfl
@[simp] theorem dwell_turn : dwell c D_TURN = c.tTurn := rfl
@[simp] theorem dwell_ackl : dwell c D_ACKL = c.tWait := rfl
@[simp] theorem dwell_ackh : dwell c D_ACKH = c.tWait := rfl
@[simp] theorem dwell_bith : dwell c D_BITH = c.tWait := rfl
@[simp] theorem dwell_bitd : dwell c D_BITD = c.tSample := rfl
@[simp] theorem dwell_bitl : dwell c D_BITL = c.tWait := rfl
@[simp] theorem dwell_chk : dwell c D_CHK = 0 := rfl
@[simp] theorem dwell_done : dwell c D_DONE = 0 := rfl

@[simp] theorem enteredBy_req : enteredBy c g D_REQ k = 0 := rfl
@[simp] theorem enteredBy_turn : enteredBy c g D_TURN k = c.tReq + g := rfl
@[simp] theorem enteredBy_ackl : enteredBy c g D_ACKL k = c.tReq + c.tTurn + 2 * g := rfl
@[simp] theorem enteredBy_ackh : enteredBy c g D_ACKH k = c.tReq + c.tTurn + c.tWait + 3 * g := rfl
@[simp] theorem enteredBy_bith : enteredBy c g D_BITH k = firstSlotBy c g + k * slotTime c g := rfl
@[simp] theorem enteredBy_bitd :
    enteredBy c g D_BITD k = firstSlotBy c g + k * slotTime c g + (c.tWait + g) := rfl
@[simp] theorem enteredBy_bitl :
    enteredBy c g D_BITL k = firstSlotBy c g + k * slotTime c g - (c.tWait + g) := rfl
@[simp] theorem enteredBy_chk : enteredBy c g D_CHK k = firstSlotBy c g + c.nSlots * slotTime c g := rfl
@[simp] theorem enteredBy_done : enteredBy c g D_DONE k = firstSlotBy c g + c.nSlots * slotTime c g + g := rfl

/-- The rule's bound is the latest entry of `D_DONE` and the step that leaves it. -/
theorem enteredBy_done_add (h40 : c.nSlots = 40) : enteredBy c g D_DONE k + g = readBound c g := by
  rw [enteredBy_done, firstSlotBy, slotTime, readBound, h40]
  omega

end

section
variable {s t : State} {i : Instr} {want : Bool} {next : DState}

/-- A fault or the validation ends the read in time, wherever it falls. -/
theorem State.enteredBy_fault (hs : slotsAt s.cfg.nSlots s.frame s.bitcnt s.dstate)
    (hd : D_TURN ≤ s.dstate ∧ s.dstate ≤ D_CHK) (g k : Nat) :
    enteredBy s.cfg g s.dstate s.bitcnt.toNat + dwell s.cfg s.dstate + g ≤ enteredBy s.cfg g D_DONE k := by
  obtain ⟨-, hle, -, hlt, -⟩ := hs
  have hall : s.bitcnt.toNat * slotTime s.cfg g ≤ s.cfg.nSlots * slotTime s.cfg g := Nat.mul_le_mul_right _ hle
  have hslot (hb : s.dstate = D_BITH ∨ s.dstate = D_BITD) :
      s.bitcnt.toNat * slotTime s.cfg g + slotTime s.cfg g ≤ s.cfg.nSlots * slotTime s.cfg g := by
    rw [← Nat.succ_mul]
    exact Nat.mul_le_mul_right _ (hlt hb)
  have hsum : slotTime s.cfg g = 2 * s.cfg.tWait + s.cfg.tSample + 3 * g := rfl
  have hfirst : firstSlotBy s.cfg g = s.cfg.tReq + s.cfg.tTurn + 2 * s.cfg.tWait + 4 * g := rfl
  have seven : ∀ d : DState, D_TURN ≤ d ∧ d ≤ D_CHK → d = D_TURN ∨ d = D_ACKL ∨ d = D_ACKH ∨ d = D_BITH ∨
      d = D_BITD ∨ d = D_BITL ∨ d = D_CHK := by decide
  rw [enteredBy_done]
  obtain hd | hd | hd | hd | hd | hd | hd := seven _ hd
  · rw [hd, enteredBy_turn, dwell_turn]
    omega
  · rw [hd, enteredBy_ackl, dwell_ackl]
    omega
  · rw [hd, enteredBy_ackh, dwell_ackh]
    omega
  · have := hslot (.inl hd)
    rw [hd, enteredBy_bith, dwell_bith]
    omega
  · have := hslot (.inr hd)
    rw [hd, enteredBy_bitd, dwell_bitd]
    omega
  · rw [hd, enteredBy_bitl, dwell_bitl]
    omega
  · rw [hd, enteredBy_chk, dwell_chk]
    omega

/-- The waits of the decoder all have the one bound (R129). -/
theorem State.WaitAt.dwell_eq (hw : s.WaitAt i want next) : s.dstate ≤ D_BITL ∧ dwell s.cfg s.dstate = s.cfg.tWait := by
  obtain ⟨-, hd⟩ | ⟨-, hd⟩ | ⟨-, hd⟩ | ⟨-, hd⟩ := hw <;> rw [hd] <;> exact ⟨by decide, rfl⟩

/-- A wait that ends with its level there enters its successor in time. -/
theorem State.WaitAt.enteredBy (hw : s.WaitAt i want next)
    (hs : slotsAt s.cfg.nSlots s.frame s.bitcnt s.dstate) (g : Nat) :
    enteredBy s.cfg g s.dstate s.bitcnt.toNat + dwell s.cfg s.dstate + g ≤
      enteredBy s.cfg g next s.bitcnt.toNat := by
  have hfirst : firstSlotBy s.cfg g = s.cfg.tReq + s.cfg.tTurn + 2 * s.cfg.tWait + 4 * g := rfl
  have hslot (h : 0 < s.bitcnt.toNat) : s.cfg.tWait + g ≤ s.bitcnt.toNat * slotTime s.cfg g := by
    refine le_trans ?_ (Nat.le_mul_of_pos_left _ h)
    rw [slotTime]
    omega
  obtain ⟨-, -, -, -, hsome, -⟩ := hs
  obtain ⟨hd, rfl⟩ | ⟨hd, rfl⟩ | ⟨hd, rfl⟩ | ⟨hd, hall, rfl⟩ | ⟨hd, -, rfl⟩ := hw.dstates
  · rw [hd, enteredBy_ackl, dwell_ackl, enteredBy_ackh]
    omega
  · rw [hd, enteredBy_ackh, dwell_ackh, enteredBy_bith]
    omega
  · rw [hd, enteredBy_bith, dwell_bith, enteredBy_bitd]
    omega
  · have := hslot (hsome hd)
    rw [hd, enteredBy_bitl, dwell_bitl, enteredBy_chk, ← hall]
    omega
  · have := hslot (hsome hd)
    rw [hd, enteredBy_bitl, dwell_bitl, enteredBy_bith]
    omega

end

/-- What a move inside a read does to its schedule: it waits in a state that has not run out, it leaves the read from
`D_DONE`, or it enters the next state in time and, before `D_CHK`, marks the time. -/
theorem Move.schedule {i : Instr} {s t : State} (h : Move i s t) (hp : s.phase = PH_DECODE)
    (hs : slotsAt s.cfg.nSlots s.frame s.bitcnt s.dstate) (h40 : s.cfg.nSlots = 40) (g : Nat) :
    (t = s ∧ s.dstate ≤ D_BITL ∧ ¬ (dwell s.cfg s.dstate : Int) ≤ s.since s.tMark) ∨
    (s.dstate = D_DONE ∧ t.phase ≠ PH_DECODE) ∨
    (t.phase = s.phase ∧ enteredBy s.cfg g s.dstate s.bitcnt.toNat + dwell s.cfg s.dstate + g ≤
        enteredBy s.cfg g t.dstate t.bitcnt.toNat ∧
      (t.dstate ≤ D_BITL → t.tMark = s.nowStamp)) := by
  have done {d : DState} (hd : s.dstate = d) (hrange : D_TURN ≤ d ∧ d ≤ D_CHK) (ht : t.dstate = D_DONE) :
      enteredBy s.cfg g s.dstate s.bitcnt.toNat + dwell s.cfg s.dstate + g ≤
          enteredBy s.cfg g t.dstate t.bitcnt.toNat ∧ (t.dstate ≤ D_BITL → t.tMark = s.nowStamp) := by
    rw [ht]
    exact ⟨s.enteredBy_fault hs (hd ▸ hrange) g _, fun hle => absurd hle (by decide)⟩
  obtain ⟨-, -, -, hslots, -⟩ := id hs
  cases h
  case delays hdelay hw =>
    obtain ⟨-, -, hd, rfl, rfl⟩ | ⟨-, -, hd, rfl, rfl⟩ | ⟨-, -, hd, rfl, rfl⟩ | ⟨-, hp', -⟩ := hw
    · exact .inl ⟨rfl, by rw [hd]; decide, by rw [hd]; exact hdelay⟩
    · exact .inl ⟨rfl, by rw [hd]; decide, by rw [hd]; exact hdelay⟩
    · exact .inl ⟨rfl, by rw [hd]; decide, by rw [hd]; exact hdelay⟩
    · exact absurd (hp.symm.trans hp') (by decide)
  case waits hl ht hw =>
    obtain ⟨hle, hdwell⟩ := State.WaitAt.dwell_eq hw
    exact .inl ⟨rfl, hle, by rw [hdwell]; exact ht⟩
  case releases hd _ =>
    refine .inr (.inr ⟨rfl, ?_, fun _ => rfl⟩)
    change _ ≤ enteredBy s.cfg g D_TURN s.bitcnt.toNat
    rw [hd, enteredBy_req, dwell_req, enteredBy_turn]
    omega
  case acknowledged hd _ _ =>
    refine .inr (.inr ⟨rfl, ?_, fun _ => rfl⟩)
    change _ ≤ enteredBy s.cfg g D_ACKL s.bitcnt.toNat
    rw [hd, enteredBy_turn, dwell_turn, enteredBy_ackl]
    omega
  case noResponse hd _ _ => exact .inr (.inr ⟨rfl, done hd (by decide) rfl⟩)
  case validates hd _ | rejects hd _ => exact .inr (.inr ⟨rfl, done hd (by decide) rfl⟩)
  case timesOut hl ht hw =>
    obtain ⟨hlow, -⟩ := State.WaitAt.bounds hw
    obtain ⟨hhigh, -⟩ := State.WaitAt.dwell_eq hw
    exact .inr (.inr ⟨rfl, done rfl ⟨hlow, BitVec.le_trans hhigh (by decide)⟩ rfl⟩)
  case levelSeen hw => exact .inr (.inr ⟨rfl, State.WaitAt.enteredBy hw hs g, fun _ => rfl⟩)
  case samples hd _ =>
    refine .inr (.inr ⟨rfl, ?_, fun _ => rfl⟩)
    have hcount : (s.bitcnt + 1#6).toNat = s.bitcnt.toNat + 1 := by
      have := hslots (.inr hd)
      rw [BitVec.toNat_add, BitVec.toNat_ofNat]
      omega
    change _ ≤ enteredBy s.cfg g D_BITL (s.bitcnt + 1#6).toNat
    rw [hd, enteredBy_bitd, dwell_bitd, enteredBy_bitl, hcount, Nat.succ_mul, slotTime]
    omega
  case usesReading hd _ | reportsFault hd _ => exact .inr (.inl ⟨hd, show PH_DRAIN_IN ≠ PH_DECODE by decide⟩)
  all_goals exact absurd (hp.symm.trans ‹_›) (by decide)

/-! ## The schedule of a read -/

/-- A read called at `r` is on schedule: its state was entered at `mark`, in time, and has not outlived its bound. -/
def State.scheduledFrom (s : State) (g r mark : Nat) : Prop :=
  s.inRead ∧ r ≤ mark ∧ mark ≤ s.inputs.now ∧ s.inputs.now ≤ mark + dwell s.cfg s.dstate ∧
    (s.dstate ≤ D_BITL → s.tMark = mark % 2 ^ s.cfg.tw) ∧
    mark ≤ r + enteredBy s.cfg g s.dstate s.bitcnt.toNat

/-- In every state of a read the step that ends it is still within the bound. -/
theorem State.dwell_le_readBound {s : State} (hp : s.inRead) (hlegal : s.seqLegal) (hslots : s.slotsCounted)
    (h40 : s.cfg.nSlots = 40) (g : Nat) :
    enteredBy s.cfg g s.dstate s.bitcnt.toNat + dwell s.cfg s.dstate + g ≤ readBound s.cfg g := by
  have hdone := enteredBy_done_add s.cfg g s.bitcnt.toNat h40
  rw [State.seqLegal, if_pos hp] at hlegal
  have three : ∀ d : DState, D_REQ ≤ d ∧ d ≤ D_DONE → d = D_REQ ∨ d = D_DONE ∨ D_TURN ≤ d ∧ d ≤ D_CHK := by decide
  obtain hd | hd | hd := three _ hlegal
  · rw [hd, enteredBy_req, dwell_req, readBound]
    omega
  · rw [hd, dwell_done, Nat.add_zero, hdone]
  · have := s.enteredBy_fault (hslots hp) hd g s.bitcnt.toNat
    omega

/-- A move at a step at most `g` later keeps a read on schedule, or ends it within the bound. -/
theorem Move.scheduled {i : Instr} {s t : State} {inp : Inputs} {g r mark : Nat}
    (hm : Move i { s with inputs := inp } t) (hheld : s.readHeld) (hlegal : s.seqLegal)
    (hmark : s.scheduledFrom g r mark) (hle : s.inputs.now ≤ inp.now) (hg : inp.now ≤ s.inputs.now + g)
    (hbound : readBound s.cfg g < 2 ^ s.cfg.tw) :
    (∃ mark', t.scheduledFrom g r mark') ∨ (¬ t.inRead ∧ t.inputs.now ≤ r + readBound s.cfg g) := by
  obtain ⟨hwf, hslots, -⟩ := hheld
  obtain ⟨hp, hr, hlow, hhigh, hstamp, hentered⟩ := hmark
  obtain ⟨hcfg, hinputs, -⟩ := hm.env
  have hend := State.dwell_le_readBound hp hlegal hslots (nSlots_eq_of_wf hwf) g
  obtain ⟨rfl, hd, hwait⟩ | ⟨hd, hleft⟩ | ⟨hphase, hnext, hmarked⟩ := hm.schedule hp (hslots hp) (nSlots_eq_of_wf hwf) g
  · refine .inl ⟨mark, hp, hr, hlow.trans hle, ?_, hstamp, hentered⟩
    rw [State.le_since_iff (s := { s with inputs := inp }) (mark := mark) (hstamp hd) (hlow.trans hle)
      (show inp.now < mark + 2 ^ s.cfg.tw by omega)] at hwait
    exact (Nat.lt_of_not_le hwait).le
  · refine .inr ⟨hleft, ?_⟩
    rw [hinputs]
    change inp.now ≤ _
    omega
  · refine .inl ⟨inp.now, hphase.trans hp, by omega, by rw [hinputs], by rw [hinputs]; exact Nat.le_add_right _ _, ?_, ?_⟩
    · rw [hcfg]
      exact hmarked
    · rw [hcfg]
      change enteredBy s.cfg g s.dstate s.bitcnt.toNat + dwell s.cfg s.dstate + g ≤ enteredBy s.cfg g _ _ at hnext
      change inp.now ≤ r + enteredBy s.cfg g _ _
      omega

/-- A read called at `r` on configuration `c` is on schedule, or over within the bound. -/
def State.inTime (c : Config) (g r : Nat) (s : State) : Prop :=
  (s.readHeld ∧ s.seqLegal ∧ s.cfg = c) ∧
    ((∃ mark, s.scheduledFrom g r mark) ∨ (¬ s.inRead ∧ s.inputs.now ≤ r + readBound c g))

theorem State.inTime.now_le {c : Config} {g r : Nat} {s : State} (hs : s.inTime c g r) :
    s.inputs.now ≤ r + readBound c g := by
  obtain ⟨⟨⟨hwf, hslots, -⟩, hlegal, rfl⟩, ⟨mark, hp, -, -, hnow, -, hentered⟩ | ⟨-, hnow⟩⟩ := hs
  · have hend := State.dwell_le_readBound hp hlegal hslots (nSlots_eq_of_wf hwf) g
    omega
  · exact hnow

theorem step_inTime {c : Config} {g r : Nat} {s t : State} (h : step s = .next t) (hs : s.inTime c g r)
    (hp : s.inRead) (hreset : ∀ m, s.nextItem ≠ .reset m)
    (hspacing : ∀ m, s.nextItem.time? = some m → m ≤ s.inputs.now + g) (hbound : readBound c g < 2 ^ c.tw) :
    t.inTime c g r := by
  obtain ⟨⟨hheld₀, hlegal₀, -⟩, -⟩ := id hs
  obtain hquiet | ⟨now, sda, bs, bp, i, hitem, hle, ⟨⟨hheld, hlegal, hcfg⟩, hsched⟩, hi, hexec⟩ :=
    step_takes (P := State.inTime c g r) (fun _ _ _ _ _ _ h => h) hs h hreset
  · exact hquiet
  · have hclock := s.takeItem_inputs
    have hm : Move i { s.takeItem with inputs := ⟨now, sda, bs, bp⟩ } t := exec_move hi hexec
    obtain ⟨mark, hmark⟩ | ⟨hout, -⟩ := hsched
    · refine ⟨⟨readHeld_kept hheld₀ h, seqLegalKeptByStep s t hlegal₀ h, hm.env.1.trans hcfg⟩, ?_⟩
      rw [← hcfg] at hbound ⊢
      exact hm.scheduled hheld hlegal hmark (hclock ▸ hle) (hclock ▸ hspacing now (by rw [hitem]; rfl)) hbound
    · exact absurd (s.takeItem_phase.trans hp) hout

/-- Settles O60: from the call the read stays on schedule, and the schedule ends within the bound. -/
theorem readLengthBounded : Obligations.ReadLengthBounded := by
  intro s t g n r hwf hp hd hframe hcount hnow hmark hbound hrun hread
  have hs : s.scheduledFrom g r r := by
    subst hnow
    exact ⟨hp, le_rfl, le_rfl, Nat.le_add_right _ _, fun _ => hmark, Nat.le_add_right _ _⟩
  have hstart : s.inTime s.cfg g r :=
    ⟨⟨State.readHeld_of_cleared hwf hd (by decide) hframe hcount, State.seqLegal_of_read hp hd (by decide), rfl⟩,
      .inl ⟨r, hs⟩⟩
  refine State.inTime.now_le (run_induction_at (P := fun _ u => u.inTime s.cfg g r) hstart ?_ hrun)
  intro k u v hk hu hv hin
  obtain ⟨hinRead, hreset, hspacing⟩ := hread k u hk hu
  exact step_inTime hv hin hinRead hreset hspacing hbound

end Sys2Proof.Machine
end

section
/-! A read under the conditions of R141: the waveform slot by slot, the stages a read goes through on it, and the
step from stage to stage. -/

namespace Sys2Proof.Machine

/-! ## The waveform, slot by slot -/

namespace Waveform

/-- When the low that follows the bits `sent` begins. -/
def start (w : Waveform) (sent : List Bool) : Nat :=
  w.t0 + w.al + w.ah + (sent.map fun b => w.lb + w.high b).sum

@[simp] theorem start_nil (w : Waveform) : w.start [] = w.t0 + w.al + w.ah := rfl

theorem start_snoc (w : Waveform) (sent : List Bool) (b : Bool) :
    w.start (sent ++ [b]) = w.start sent + w.lb + w.high b := by
  simp [start]
  omega

theorem start_le_append (w : Waveform) (sent rest : List Bool) : w.start sent ≤ w.start (sent ++ rest) := by
  simp [start]

theorem finish_eq (w : Waveform) (bits : List Bool) : w.finish bits = w.start bits + w.le := rfl

theorem high_true (w : Waveform) : w.high true = w.h1 := rfl
theorem high_false (w : Waveform) : w.high false = w.h0 := rfl

/-- Past the bits `sent` the level is that of the bits to come. -/
theorem bitsLevel_append (w : Waveform) (sent rest : List Bool) (d : Nat) :
    w.bitsLevel (sent ++ rest) ((sent.map fun b => w.lb + w.high b).sum + d) = w.bitsLevel rest d := by
  induction sent with
  | nil => simp
  | cons b sent ih =>
    rw [List.cons_append, List.map_cons, List.sum_cons, bitsLevel, if_neg (by omega), if_neg (by omega), ← ih]
    congr 1
    omega

theorem level_start_add (w : Waveform) (sent rest : List Bool) (d : Nat) :
    w.level (sent ++ rest) (w.start sent + d) = w.bitsLevel rest d := by
  rw [level, start, if_neg (by omega), if_neg (by omega), if_neg (by omega), ← bitsLevel_append w sent rest d]
  congr 1
  omega

section
variable {w : Waveform} {bits sent rest : List Bool} {b : Bool} {x : Nat}

theorem level_ackLow (bits : List Bool) (h0 : w.t0 ≤ x) (h1 : x < w.t0 + w.al) : w.level bits x = false := by
  rw [level, if_neg (by omega), if_pos h1]

theorem level_ackHigh (bits : List Bool) (h0 : w.t0 + w.al ≤ x) (h1 : x < w.start []) : w.level bits x = true := by
  rw [start_nil] at h1
  rw [level, if_neg (by omega), if_neg (by omega), if_pos h1]

/-- Low at the start of a slot, and after the last slot. -/
theorem level_slotLow (hbits : bits = sent ++ rest) (h0 : w.start sent ≤ x)
    (h1 : x < w.start sent + min w.lb w.le) : w.level bits x = false := by
  obtain ⟨d, rfl⟩ := Nat.exists_eq_add_of_le h0
  rw [hbits, level_start_add]
  cases rest with
  | nil => exact decide_eq_false (by omega)
  | cons b rest => rw [bitsLevel, if_pos (by omega)]

/-- Low until the slot of a bit to come goes high. -/
theorem level_bitLow (hbits : bits = sent ++ b :: rest) (h0 : w.start sent ≤ x) (h1 : x < w.start sent + w.lb) :
    w.level bits x = false := by
  obtain ⟨d, rfl⟩ := Nat.exists_eq_add_of_le h0
  rw [hbits, level_start_add, bitsLevel, if_pos (by omega)]

/-- High for the rest of that slot. -/
theorem level_bitHigh (hbits : bits = sent ++ b :: rest) (h0 : w.start sent + w.lb ≤ x)
    (h1 : x < w.start (sent ++ [b])) : w.level bits x = true := by
  rw [start_snoc] at h1
  obtain ⟨d, rfl⟩ := Nat.exists_eq_add_of_le (le_trans (Nat.le_add_right _ _) h0)
  rw [hbits, level_start_add, bitsLevel, if_neg (by omega), if_pos (by omega)]

/-- The high of either bit is seen by a step (R141). -/
theorem high_ge {c : Config} {r g : Nat} (hw : w.wellTimed c r g) (b : Bool) : g ≤ w.high b := by
  cases b with
  | true =>
    rw [high_true]
    omega
  | false =>
    rw [high_false]
    omega

/-- The high of either bit is shorter than a wait (R141). -/
theorem high_lt {c : Config} {r g : Nat} (hw : w.wellTimed c r g) (b : Bool) : w.high b < c.tWait := by
  cases b with
  | true =>
    rw [high_true]
    omega
  | false =>
    rw [high_false]
    omega

/-- The sample is the bit: two late steps past the delay it is still within the high of a 1, and past the high of a 0
it is within the low that follows (R141). -/
theorem level_sample {c : Config} {r g : Nat} (hw : w.wellTimed c r g) (hbits : bits = sent ++ b :: rest)
    (h0 : w.start sent + w.lb + c.tSample ≤ x) (h1 : x < w.start sent + w.lb + c.tSample + 2 * g) :
    w.level bits x = b := by
  have hsnoc := w.start_snoc sent b
  cases b with
  | true =>
    rw [high_true] at hsnoc
    exact level_bitHigh hbits (by omega) (by omega)
  | false =>
    rw [high_false] at hsnoc
    rw [List.append_cons] at hbits
    exact level_slotLow hbits (by omega) (by omega)

/-- Three late steps past the delay it is still before the end of the low that follows (R141). -/
theorem sample_in_time {c : Config} {r g : Nat} (hw : w.wellTimed c r g) (sent : List Bool) (b : Bool)
    (h1 : x < w.start sent + w.lb + c.tSample + 2 * g) : x + g < w.start (sent ++ [b]) + min w.lb w.le := by
  rw [start_snoc]
  cases b with
  | true =>
    rw [high_true]
    omega
  | false =>
    rw [high_false]
    omega

end

end Waveform

/-! ## The stages of a read -/

/-- Where a read that follows the waveform can be: the state of the decoder, the time it was entered, the time of the
last step, the bits taken. -/
inductive Stage (w : Waveform) (c : Config) (r g : Nat) (bits : List Bool) :
    DState → Nat → Nat → List Bool → Prop where
  /-- Before the first sample. -/
  | turn {now : Nat} (hmark : r ≤ now) (hnow : now ≤ r + c.tTurn) : Stage w c r g bits D_TURN r now []
  /-- In the low of the acknowledgement. -/
  | ackLow {mark now : Nat} (hlow : w.t0 ≤ mark) (hmark : mark ≤ now) (hnow : now < w.t0 + w.al) :
      Stage w c r g bits D_ACKL mark now []
  /-- In the high of the acknowledgement. -/
  | ackHigh {mark now : Nat} (hhigh : w.t0 + w.al ≤ mark) (hmark : mark ≤ now) (hnow : now < w.start []) :
      Stage w c r g bits D_ACKH mark now []
  /-- In the low of a slot. -/
  | slotLow {mark now : Nat} {sent rest : List Bool} {b : Bool} (hbits : bits = sent ++ b :: rest)
      (hlow : w.start sent ≤ mark) (hmark : mark ≤ now) (hnow : now < w.start sent + w.lb) :
      Stage w c r g bits D_BITH mark now sent
  /-- In the sampling delay, entered at most one step after the slot went high. -/
  | slotHigh {mark now : Nat} {sent rest : List Bool} {b : Bool} (hbits : bits = sent ++ b :: rest)
      (hhigh : w.start sent + w.lb ≤ mark) (hseen : mark < w.start sent + w.lb + g) (hmark : mark ≤ now)
      (hnow : now ≤ mark + c.tSample) : Stage w c r g bits D_BITD mark now sent
  /-- The bit sampled: in the rest of its high, or in the low that follows, which the next step still sees. -/
  | slotTaken {mark now : Nat} {sent rest : List Bool} {b : Bool} (hbits : bits = sent ++ b :: rest)
      (hhigh : w.start sent + w.lb ≤ mark) (hmark : mark ≤ now)
      (hnow : now + g < w.start (sent ++ [b]) + min w.lb w.le) :
      Stage w c r g bits D_BITL mark now (sent ++ [b])
  /-- All bits taken. -/
  | allTaken {mark now : Nat} : Stage w c r g bits D_CHK mark now bits

/-- A read follows the waveform: it is at a stage with the bits taken in the frame, or it has ended by the validation
of all of them, or it is over. -/
def State.onWave (s : State) (w : Waveform) (c : Config) (r g : Nat) (bits : List Bool) : Prop :=
  s.cfg = c ∧
    ((∃ mark taken, s.inRead ∧ Stage w c r g bits s.dstate mark s.inputs.now taken ∧
        s.tMark = mark % 2 ^ c.tw ∧ s.holds taken) ∨
      (s.inRead ∧ s.dstate = D_DONE ∧ s.holds bits ∧ (s.dErr = .none ∨ s.dErr = .checksum)) ∨
      ¬ s.inRead)

/-- The premises of R141 for a release at `r`. -/
structure Answer (w : Waveform) (c : Config) (r g : Nat) (bits : List Bool) : Prop where
  wf : c.wf = true
  forty : bits.length = 40
  timed : w.wellTimed c r g
  span : w.finish bits + g < r + 2 ^ c.tw

section
variable {w : Waveform} {c : Config} {r g : Nat} {bits taken : List Bool} {d : DState} {mark now : Nat}

theorem Stage.mark_le (h : Stage w c r g bits d mark now taken) (hd : d ≠ D_CHK) : mark ≤ now := by
  cases h with
  | allTaken => exact absurd rfl hd
  | _ => assumption

theorem Stage.release_le (h : Stage w c r g bits d mark now taken) (hw : w.wellTimed c r g) (hd : d ≠ D_CHK) :
    r ≤ mark := by
  have hstart (sent : List Bool) : w.t0 ≤ w.start sent := by
    rw [Waveform.start]
    omega
  obtain ⟨hr, -⟩ := id hw
  cases h with
  | turn => exact le_rfl
  | ackLow | ackHigh => omega
  | slotLow _ hlow => exact hr.trans ((hstart _).trans hlow)
  | slotHigh _ hhigh | slotTaken _ hhigh => exact hr.trans ((hstart _).trans (le_of_add_le_left hhigh))
  | allTaken => exact absurd rfl hd

/-- Before the last slot is over the sensor has not finished. -/
theorem Stage.lt_finish (h : Stage w c r g bits d mark now taken) (hw : w.wellTimed c r g) (hd : d ≠ D_CHK) :
    now < w.finish bits := by
  have hfirst : w.start [] ≤ w.start bits := w.start_le_append [] bits
  have hlast {sent rest : List Bool} {b : Bool} (hbits : bits = sent ++ b :: rest) :
      w.start (sent ++ [b]) ≤ w.start bits := by
    have h := w.start_le_append (sent ++ [b]) rest
    rwa [← List.append_cons, ← hbits] at h
  rw [Waveform.finish_eq]
  cases h with
  | turn | ackLow =>
    rw [Waveform.start_nil] at hfirst
    omega
  | ackHigh => omega
  | slotLow hbits =>
    have := hlast hbits
    rw [Waveform.start_snoc] at this
    omega
  | @slotHigh _ _ _ _ b hbits =>
    have := hlast hbits
    have := Waveform.sample_in_time (x := now) hw taken b (by omega)
    omega
  | slotTaken hbits =>
    have := hlast hbits
    omega
  | allTaken => exact absurd rfl hd

end

/-! ## From stage to stage -/

/-- A MAIN step that sees the waveform, about to run: the state with the step's inputs, its stage at the last step. -/
structure Sees (w : Waveform) (c : Config) (r g : Nat) (bits : List Bool) (x : State) (last mark : Nat)
    (taken : List Bool) : Prop where
  cfg : x.cfg = c
  read : x.inRead
  stage : Stage w c r g bits x.dstate mark last taken
  stamped : x.tMark = mark % 2 ^ c.tw
  held : x.holds taken
  later : last ≤ x.inputs.now
  near : x.inputs.now ≤ last + g
  level : x.inputs.sdaIn = w.level bits x.inputs.now

section
variable {w : Waveform} {c : Config} {r g : Nat} {bits taken : List Bool} {x t : State} {last mark : Nat}
  {i : Instr}

/-- A timer of the read, in true time: the whole answer lies within `2^TW` of the release. -/
theorem Sees.le_since_iff (hs : Sees w c r g bits x last mark taken) (ha : Answer w c r g bits)
    (hd : x.dstate ≠ D_CHK) (bound : Nat) : (bound : Int) ≤ x.since x.tMark ↔ mark + bound ≤ x.inputs.now := by
  have hmark := hs.stage.mark_le hd
  have hr := hs.stage.release_le ha.timed hd
  have hfinish := hs.stage.lt_finish ha.timed hd
  have hspan := ha.span
  have hlater := hs.later
  have hnear := hs.near
  obtain rfl := hs.cfg
  exact State.le_since_iff hs.stamped (by omega) (by omega) bound

/-- The stage entered at this step. -/
theorem Sees.enters {taken' : List Bool} (hs : Sees w c r g bits x last mark taken) (hcfg : t.cfg = x.cfg)
    (hread : t.phase = x.phase) (hnow : t.inputs.now = x.inputs.now) (hstamp : t.tMark = x.nowStamp)
    (hheld : t.holds taken') (hstage : Stage w c r g bits t.dstate x.inputs.now x.inputs.now taken') :
    t.onWave w c r g bits := by
  refine ⟨hcfg.trans hs.cfg, .inl ⟨x.inputs.now, taken', hread.trans hs.read, hnow ▸ hstage, ?_, hheld⟩⟩
  rw [hstamp, State.nowStamp, stampOf, hs.cfg]

/-- The same stage, at this step. -/
theorem Sees.stays (hs : Sees w c r g bits x last mark taken)
    (hstage : Stage w c r g bits x.dstate mark x.inputs.now taken) : x.onWave w c r g bits :=
  ⟨hs.cfg, .inl ⟨mark, taken, hs.read, hstage, hs.stamped, hs.held⟩⟩

/-- A wait whose level comes at `edge`, before the bound: it stays until then, and moves on at the first step after. -/
theorem Sees.waits (hs : Sees w c r g bits x last mark taken) (ha : Answer w c r g bits) (hd : x.dstate ≠ D_CHK)
    {want : Bool} {next : DState}
    (hi : (i, want, next) = (.decAckl, true, D_ACKH) ∨ (i, want, next) = (.decAckh, false, D_BITH) ∨
      (i, want, next) = (.decBith, true, D_BITD) ∨
      (i, want, next) = (.decBitl, false, if x.bitcnt.toNat = x.cfg.nSlots then D_CHK else D_BITH))
    (h : exec i x = .next t) {edge : Nat}
    (hbefore : x.inputs.now < edge → w.level bits x.inputs.now ≠ want ∧ x.inputs.now < mark + c.tWait ∧
      Stage w c r g bits x.dstate mark x.inputs.now taken)
    (hafter : edge ≤ x.inputs.now → w.level bits x.inputs.now = want ∧
      Stage w c r g bits next x.inputs.now x.inputs.now taken) : t.onWave w c r g bits := by
  rw [← hs.level] at hbefore hafter
  obtain hlt | hge := Nat.lt_or_ge x.inputs.now edge
  · obtain ⟨hlevel, hbound, hstage⟩ := hbefore hlt
    obtain ⟨hl, -⟩ | ⟨-, hout, -⟩ | ⟨-, -, rfl⟩ := execWait_cases hi h
    · exact absurd hl hlevel
    · rw [hs.cfg, hs.le_since_iff ha hd] at hout
      omega
    · exact hs.stays hstage
  · obtain ⟨hlevel, hstage⟩ := hafter hge
    obtain ⟨-, rfl⟩ | ⟨hl, -⟩ | ⟨hl, -⟩ := execWait_cases hi h
    · exact hs.enters rfl rfl rfl rfl hs.held hstage
    · exact absurd hlevel hl
    · exact absurd hlevel hl

/-! Each stage in turn (R122 to R128). -/

theorem Sees.of_turn (hs : Sees w c r g bits x last r []) (ha : Answer w c r g bits) (hd : x.dstate = D_TURN)
    (hnow : last ≤ r + c.tTurn) (h : exec .decTurn x = .next t) : t.onWave w c r g bits := by
  have htimer := hs.le_since_iff ha (by rw [hd]; decide) c.tTurn
  have hlater := hs.later
  have hnear := hs.near
  have htimed := ha.timed
  have hmark : r ≤ last := hs.stage.mark_le (by rw [hd]; decide)
  have hlow (hdone : r + c.tTurn ≤ x.inputs.now) : x.inputs.sdaIn = false :=
    hs.level.trans (Waveform.level_ackLow bits (by omega) (by omega))
  obtain rfl := hs.cfg
  obtain ⟨hdone, hhigh, -⟩ | ⟨hdone, -, rfl⟩ | ⟨hdelay, rfl⟩ := execDecTurn_cases h
  · exact absurd (hhigh.symm.trans (hlow (htimer.mp hdone))) Bool.false_ne_true.symm
  · rw [htimer] at hdone
    exact hs.enters rfl rfl rfl rfl hs.held (.ackLow (by omega) le_rfl (by omega))
  · rw [htimer] at hdelay
    exact hs.stays (hd ▸ .turn (by omega) (by omega))

theorem Sees.of_ackLow (hs : Sees w c r g bits x last mark []) (ha : Answer w c r g bits) (hd : x.dstate = D_ACKL)
    (hlow : w.t0 ≤ mark) (hmark : mark ≤ last) (hnow : last < w.t0 + w.al) (h : exec .decAckl x = .next t) :
    t.onWave w c r g bits := by
  have hlater := hs.later
  have hnear := hs.near
  have htimed := ha.timed
  refine hs.waits ha (by rw [hd]; decide) (.inl rfl) h (edge := w.t0 + w.al) (fun hlt => ?_) (fun hge => ?_)
  · rw [Waveform.level_ackLow bits (by omega) hlt]
    exact ⟨Bool.false_ne_true, by omega, hd ▸ .ackLow hlow (by omega) hlt⟩
  · have hend : x.inputs.now < w.start [] := by
      rw [Waveform.start_nil]
      omega
    exact ⟨Waveform.level_ackHigh bits hge hend, .ackHigh hge le_rfl hend⟩

theorem Sees.of_ackHigh (hs : Sees w c r g bits x last mark []) (ha : Answer w c r g bits) (hd : x.dstate = D_ACKH)
    (hhigh : w.t0 + w.al ≤ mark) (hmark : mark ≤ last) (hnow : last < w.start []) (h : exec .decAckh x = .next t) :
    t.onWave w c r g bits := by
  have hlater := hs.later
  have hnear := hs.near
  have htimed := ha.timed
  have hstart := w.start_nil
  refine hs.waits ha (by rw [hd]; decide) (.inr (.inl rfl)) h (edge := w.start []) (fun hlt => ?_) (fun hge => ?_)
  · rw [Waveform.level_ackHigh bits (by omega) hlt]
    exact ⟨Bool.false_ne_true.symm, by omega, hd ▸ .ackHigh hhigh (by omega) hlt⟩
  · obtain ⟨b, rest, hbits⟩ := List.exists_cons_of_length_pos (l := bits) (by rw [ha.forty]; decide)
    exact ⟨Waveform.level_bitLow (sent := []) hbits hge (by omega), .slotLow (sent := []) hbits hge le_rfl (by omega)⟩

theorem Sees.of_slotLow {rest : List Bool} {b : Bool} (hs : Sees w c r g bits x last mark taken)
    (ha : Answer w c r g bits) (hd : x.dstate = D_BITH) (hbits : bits = taken ++ b :: rest)
    (hlow : w.start taken ≤ mark) (hmark : mark ≤ last) (hnow : last < w.start taken + w.lb)
    (h : exec .decBith x = .next t) : t.onWave w c r g bits := by
  have hlater := hs.later
  have hnear := hs.near
  have htimed := ha.timed
  refine hs.waits ha (by rw [hd]; decide) (.inr (.inr (.inl rfl))) h (edge := w.start taken + w.lb)
    (fun hlt => ?_) (fun hge => ?_)
  · rw [Waveform.level_bitLow hbits (by omega) hlt]
    exact ⟨Bool.false_ne_true, by omega, hd ▸ .slotLow hbits hlow (by omega) hlt⟩
  · have hhigh := Waveform.high_ge htimed b
    have hsnoc := w.start_snoc taken b
    exact ⟨Waveform.level_bitHigh hbits hge (by omega), .slotHigh hbits hge (by omega) le_rfl (by omega)⟩

theorem Sees.of_slotHigh {rest : List Bool} {b : Bool} (hs : Sees w c r g bits x last mark taken)
    (ha : Answer w c r g bits) (hd : x.dstate = D_BITD) (hbits : bits = taken ++ b :: rest)
    (hhigh : w.start taken + w.lb ≤ mark) (hseen : mark < w.start taken + w.lb + g) (hmark : mark ≤ last)
    (hnow : last ≤ mark + c.tSample) (h : exec .decBitd x = .next t) : t.onWave w c r g bits := by
  have htimer := hs.le_since_iff ha (by rw [hd]; decide) c.tSample
  have hlater := hs.later
  have hnear := hs.near
  obtain rfl := hs.cfg
  obtain ⟨hdone, rfl⟩ | ⟨hdelay, rfl⟩ := execDecBitd_cases h
  · rw [htimer] at hdone
    have hlen : taken.length < 40 := by
      have := ha.forty
      rw [hbits, List.length_append, List.length_cons] at this
      omega
    have hin : x.inputs.now < w.start taken + w.lb + x.cfg.tSample + 2 * g := by omega
    have hbit : x.inputs.sdaIn = b := hs.level.trans (Waveform.level_sample ha.timed hbits (by omega) hin)
    rw [hbit]
    exact hs.enters rfl rfl rfl rfl (hs.held.sample hlen rfl rfl)
      (.slotTaken hbits (by omega) le_rfl (Waveform.sample_in_time ha.timed taken b hin))
  · rw [htimer] at hdelay
    exact hs.stays (hd ▸ .slotHigh hbits hhigh hseen (by omega) (by omega))

theorem Sees.of_slotTaken {sent rest : List Bool} {b : Bool} (hs : Sees w c r g bits x last mark (sent ++ [b]))
    (ha : Answer w c r g bits) (hd : x.dstate = D_BITL) (hbits : bits = sent ++ b :: rest)
    (hhigh : w.start sent + w.lb ≤ mark) (hmark : mark ≤ last)
    (hnow : last + g < w.start (sent ++ [b]) + min w.lb w.le) (h : exec .decBitl x = .next t) :
    t.onWave w c r g bits := by
  have hlater := hs.later
  have hnear := hs.near
  have htimed := ha.timed
  refine hs.waits ha (by rw [hd]; decide) (.inr (.inr (.inr rfl))) h (edge := w.start (sent ++ [b]))
    (fun hlt => ?_) (fun hge => ?_)
  · have hwidth := Waveform.high_lt htimed b
    have hsnoc := w.start_snoc sent b
    rw [Waveform.level_bitHigh hbits (by omega) hlt]
    exact ⟨Bool.false_ne_true.symm, by omega, hd ▸ .slotTaken hbits hhigh (by omega) (by omega)⟩
  · rw [List.append_cons] at hbits
    refine ⟨Waveform.level_slotLow hbits hge (by omega), ?_⟩
    have hcount : x.bitcnt.toNat = x.cfg.nSlots ↔ (sent ++ [b]).length = bits.length := by
      rw [hs.held.2, hs.cfg, nSlots_eq_of_wf ha.wf, ha.forty]
    cases rest with
    | nil =>
      rw [List.append_nil] at hbits
      rw [if_pos (hcount.mpr (by rw [hbits])), ← hbits]
      exact .allTaken
    | cons b' rest =>
      have hmore : ¬ x.bitcnt.toNat = x.cfg.nSlots := by
        rw [hcount, hbits, List.length_append (bs := b' :: rest), List.length_cons]
        omega
      rw [if_neg hmore]
      exact .slotLow hbits hge le_rfl (by omega)

theorem Sees.of_allTaken (hs : Sees w c r g bits x last mark bits) (h : exec .decChk x = .next t) :
    t.onWave w c r g bits := by
  obtain ⟨-, rfl⟩ | ⟨-, rfl⟩ := execDecChk_cases h
  · exact ⟨hs.cfg, .inr (.inl ⟨hs.read, rfl, hs.held, .inl rfl⟩)⟩
  · exact ⟨hs.cfg, .inr (.inl ⟨hs.read, rfl, hs.held, .inr rfl⟩)⟩

/-- One step from any stage leads to a stage, or to the end with all bits validated. -/
theorem Sees.next (hs : Sees w c r g bits x last mark taken) (ha : Answer w c r g bits)
    (hi : decodeSeq x.seq = .ok i) (h : exec i x = .next t) : t.onWave w c r g bits := by
  have hstage := hs.stage
  rw [State.seq, hs.read] at hi
  generalize hd : x.dstate = d at hstage hi
  cases hstage with
  | turn hmark hnow =>
    obtain rfl : Instr.decTurn = i := Except.ok.inj hi
    exact hs.of_turn ha hd hnow h
  | ackLow hlow hmark hnow =>
    obtain rfl : Instr.decAckl = i := Except.ok.inj hi
    exact hs.of_ackLow ha hd hlow hmark hnow h
  | ackHigh hhigh hmark hnow =>
    obtain rfl : Instr.decAckh = i := Except.ok.inj hi
    exact hs.of_ackHigh ha hd hhigh hmark hnow h
  | slotLow hbits hlow hmark hnow =>
    obtain rfl : Instr.decBith = i := Except.ok.inj hi
    exact hs.of_slotLow ha hd hbits hlow hmark hnow h
  | slotHigh hbits hhigh hseen hmark hnow =>
    obtain rfl : Instr.decBitd = i := Except.ok.inj hi
    exact hs.of_slotHigh ha hd hbits hhigh hseen hmark hnow h
  | slotTaken hbits hhigh hmark hnow =>
    obtain rfl : Instr.decBitl = i := Except.ok.inj hi
    exact hs.of_slotTaken ha hd hbits hhigh hmark hnow h
  | allTaken =>
    obtain rfl : Instr.decChk = i := Except.ok.inj hi
    exact hs.of_allTaken h

/-- Past the validation only LOOP.RET is left, and it ends the read. -/
theorem exec_done_leaves (hread : x.inRead) (hd : x.dstate = D_DONE) (hi : decodeSeq x.seq = .ok i)
    (h : exec i x = .next t) : ¬ t.inRead := by
  rw [State.seq, hread, hd] at hi
  obtain rfl : Instr.loopRet = i := Except.ok.inj hi
  obtain ⟨-, rfl⟩ | ⟨-, rfl⟩ := execLoopRet_cases h
  · exact show PH_DRAIN_IN ≠ PH_DECODE by decide
  · exact show PH_DRAIN_IN ≠ PH_DECODE by decide

end

/-! ## The whole read -/

/-- A step of ENV that R141 allows keeps the read on the waveform. -/
theorem step_onWave {w : Waveform} {c : Config} {r g : Nat} {bits : List Bool} {s t : State}
    (ha : Answer w c r g bits) (h : step s = .next t) (hs : s.onWave w c r g bits) (hread : s.inRead)
    (hitem : itemFollowsWave w bits g s.inputs.now s.nextItem = true) : t.onWave w c r g bits := by
  have hreset : ∀ n, s.nextItem ≠ .reset n := by
    rintro n hn
    rw [hn] at hitem
    exact absurd hitem Bool.false_ne_true
  obtain hquiet | ⟨now, sda, bs, bp, i, hmain, hle, ⟨hcfg, hwave⟩, hi, hexec⟩ :=
    step_takes (P := fun u => u.onWave w c r g bits) (fun _ _ _ _ _ _ h => h) hs h hreset
  · exact hquiet
  · rw [hmain, itemFollowsWave, Bool.and_eq_true, decide_eq_true_eq, beq_iff_eq] at hitem
    obtain ⟨hnear, hlevel⟩ := hitem
    rw [← s.takeItem_inputs] at hle hnear
    obtain ⟨mark, taken, hin, hstage, hstamp, hheld⟩ | ⟨hin, hdone, -⟩ | hout := hwave
    · have hsees : Sees w c r g bits { s.takeItem with inputs := ⟨now, sda, bs, bp⟩ } s.takeItem.inputs.now mark
          taken :=
        ⟨hcfg, hin, hstage, hstamp, hheld, hle, hnear, hlevel⟩
      exact hsees.next ha hi hexec
    · obtain ⟨hcfg', -⟩ := exec_env hexec
      exact ⟨hcfg'.trans hcfg, .inr (.inr (exec_done_leaves (x := { s.takeItem with inputs := ⟨now, sda, bs, bp⟩ })
        hin hdone hi hexec))⟩
    · exact absurd (s.takeItem_phase.trans hread) hout

/-- Settles O59: the read stays on the waveform, whose stages before `D_CHK` are over when the sensor has finished,
and a result ready is that of the bits taken. -/
theorem wellTimedReadIsExact : Obligations.WellTimedReadIsExact := by
  intro s t w bits g n r hwf hp hd hframe hcount hnow hmark hlen htimed hspan hrun hread
  have ha : Answer w s.cfg r g bits := ⟨hwf, hlen, htimed, hspan⟩
  have hstart : s.onWave w s.cfg r g bits := by
    refine ⟨rfl, .inl ⟨r, [], hp, ?_, hmark, State.holds_nil hframe hcount⟩⟩
    rw [hd, hnow]
    exact .turn le_rfl (Nat.le_add_right _ _)
  have ht : t.readHeld ∧ t.onWave w s.cfg r g bits := by
    refine run_induction_at (P := fun _ u => u.readHeld ∧ u.onWave w s.cfg r g bits)
      ⟨State.readHeld_of_cleared hwf hd (by decide) hframe hcount, hstart⟩ (fun k u v hk hu hv ⟨hheld, hwave⟩ => ?_)
      hrun
    obtain ⟨hinRead, hitem⟩ := hread k u hk hu
    exact ⟨readHeld_kept hheld hv, step_onWave ha hv hwave hinRead hitem⟩
  obtain ⟨hheld, -, ⟨mark, taken, hin, hstage, -, -⟩ | ⟨hin, hdone, hbits, herr⟩ | hout⟩ := ht
  · refine ⟨fun hfinish => ?_, fun _ hdone => absurd (hdone ▸ hstage) nofun⟩
    by_cases hchk : t.dstate = D_CHK
    · exact .inr (.inl hchk)
    · exact absurd hfinish (Nat.not_le.mpr (hstage.lt_finish htimed hchk))
  · obtain ⟨hnone, hbad, -⟩ := hheld.result hbits hin hdone
    refine ⟨fun _ => .inr (.inr hdone), fun _ _ => ⟨fun hgood => ?_, fun hwrong => ?_⟩⟩
    · have he : t.dErr = .none := herr.resolve_right fun he => absurd hgood (hbad he).2
      obtain ⟨-, -, hhum, htemp⟩ := hnone he
      exact ⟨he, hhum, htemp⟩
    · refine herr.resolve_left fun he => ?_
      obtain ⟨-, hgood, -⟩ := hnone he
      exact hwrong hgood
  · exact ⟨fun _ => .inl hout, fun hin => absurd hin hout⟩

end Sys2Proof.Machine
end

section
/-! The edge-event capture: what each event word stores, and the flags after any number of events between two drains
(R160 to R164, R166, R256, R260). -/

namespace Sys2Proof.Machine

/-! ## Any number of CAPTURE operations as one store (R166) -/

/-- The flags after the CAPTURE operations of a list: those one of them stores to are 1, the others stay. -/
def State.withEdges (s : State) (events : List Instr) : State :=
  { s with
    fIn := s.fIn || decide (Instr.evtIn ∈ events), fOut := s.fOut || decide (Instr.evtOut ∈ events),
    fMotion := s.fMotion || decide (Instr.evtMot ∈ events) }

theorem State.withEdges_nil (s : State) : s.withEdges [] = s := by simp [State.withEdges]

/-- The first operation ors its bit into the flags, the others or theirs into the result. -/
theorem State.withEdges_cons (s : State) (i : Instr) (events : List Instr) :
    s.withEdges (i :: events) = (s.withEdge i).withEdges events := by
  simp only [State.withEdges, State.withEdge, List.mem_cons, Bool.decide_or, Bool.or_assoc, eq_comm (b := i)]

/-- Settles O46, by induction on the list: each operation answers its one store, and the stores add up. -/
theorem edgesCoalesce : Obligations.EdgesCoalesce := by
  intro events
  induction events with
  | nil => exact fun s _ => congrArg Except.ok s.withEdges_nil.symm
  | cons i events ih =>
    intro s hcapture
    obtain ⟨hi, hevents⟩ := List.forall_mem_cons.mp hcapture
    rw [List.foldlM_cons, exec_of_capture hi]
    exact (ih (s.withEdge i) hevents).trans (congrArg Except.ok (s.withEdges_cons i events).symm)

/-! ## One event (R160 to R164) -/

/-- A CAPTURE operation that is not the edge of a flag is an EVT.IGN: it stores nothing (R164). -/
theorem exec_of_ignored {i : Instr} (hi : i.agent = .capture) (hne : ∀ f : EdgeFlag, i ≠ f.edge) (s : State) :
    exec i s = .next s := by
  have hkeeps : s.withEdge i = s := by
    simp [State.withEdge, show i ≠ .evtIn from hne .transitIn, show i ≠ .evtOut from hne .transitOut,
      show i ≠ .evtMot from hne .motion]
  rw [exec_of_capture hi, hkeeps]

/-- Settles O25: the words are those of the three edges, and each edge sets its flag. -/
theorem eventStoreResults : Obligations.EventStoreResults :=
  ⟨decode_encode .evtIn, decode_encode .evtOut, decode_encode .evtMot,
    fun s => ⟨exec_edge .transitIn s, exec_edge .transitOut s, exec_edge .motion s⟩⟩

/-- Settles O26: the five words select CAPTURE's five operations that are the edge of no flag. -/
theorem ignoredEventResults : Obligations.IgnoredEventResults := by
  intro w i hw hdecode
  obtain rfl : decodeEv w = i := Except.ok.inj hdecode
  have hrow : decodeEv w = .evtIgnInRise ∨ decodeEv w = .evtIgnOutRise ∨ decodeEv w = .evtIgnMotFall ∨
      decodeEv w = .evtIgnOtherFall ∨ decodeEv w = .evtIgnOtherRise := by
    obtain rfl | rfl | rfl | rfl | rfl := hw <;> decide
  refine ⟨hrow, exec_of_ignored (decodeEv_agent w) fun f hedge => ?_⟩
  rw [hedge] at hrow
  cases f <;> exact absurd hrow (by decide)

/-- Settles O41: the state a CAPTURE operation answers is the one before or that with one flag set, by the flag. -/
theorem captureOnlySetsOneFlag : Obligations.CaptureOnlySetsOneFlag := by
  intro i s hi
  have hanswer := exec_of_capture hi s
  obtain hsame | ⟨f, hset⟩ := execCapture_cases hi hanswer
  · exact .inl (hanswer.trans (congrArg Host.Outcome.next hsame))
  · rw [hset] at hanswer
    cases f
    case transitIn => exact .inr (.inl hanswer)
    case transitOut => exact .inr (.inr (.inl hanswer))
    case motion => exact .inr (.inr (.inr hanswer))

end Sys2Proof.Machine
end

section
/-! The indicator: what each move does to it, and that it stays on for `T_COOL` after its last stamp (R192, R194,
R204). -/

namespace Sys2Proof.Machine

/-- What a move does to the indicator: nothing, a drained motion, or the end of the cooldown. -/
theorem Move.indicator {i : Instr} {s t : State} (h : Move i s t) :
    (t.indOn = s.indOn ∧ t.tMotion = s.tMotion) ∨ (t.indOn = true ∧ t.tMotion = s.nowStamp) ∨
    (s.phase = PH_COOLDOWN ∧ (s.cfg.tCool : Int) ≤ s.since s.tMotion ∧ t.indOn = false ∧
      t.report = s.report ++ [⟨.indOff, 0, 0⟩]) := by
  cases h
  case drainsMotionOn hon => exact .inr (.inl ⟨hon, rfl⟩)
  case drainsMotionOff => exact .inr (.inl ⟨rfl, rfl⟩)
  case coolsDown hp _ _ hcool => exact .inr (.inr ⟨hp, hcool, rfl, rfl⟩)
  case drainsIn => simp [State.itemEntered]
  all_goals exact .inl ⟨rfl, rfl⟩

/-- With the parameters `c`, while the clock value `last` is below `t0 + T_COOL`: the indicator is on, and its stamp is
of a true time from `t0` on. -/
def State.litFrom (s : State) (c : Config) (t0 last : Nat) : Prop :=
  s.cfg = c ∧ (last < t0 + c.tCool →
    s.indOn = true ∧ ∃ mark, t0 ≤ mark ∧ mark ≤ last ∧ s.tMotion = mark % 2 ^ c.tw)

/-- A MAIN operation, the clock having moved on from `last`, turns the indicator off only past `t0 + T_COOL`. -/
theorem Move.litFrom {i : Instr} {s t : State} {c : Config} {t0 last : Nat} (h : Move i s t)
    (hclock : last ≤ s.inputs.now) (hwrap : c.tCool ≤ 2 ^ c.tw) (hs : s.litFrom c t0 last) :
    t.litFrom c t0 t.inputs.now := by
  obtain ⟨rfl, hlit⟩ := hs
  obtain ⟨hcfg, hinputs, -⟩ := h.env
  rw [hinputs]
  refine ⟨hcfg, fun hbefore => ?_⟩
  obtain ⟨hon, mark, hfrom, hpast, hstamp⟩ := hlit (hclock.trans_lt hbefore)
  have hmark : mark ≤ s.inputs.now := hpast.trans hclock
  obtain ⟨hind, hmotion⟩ | ⟨hind, hmotion⟩ | ⟨-, hcool, -⟩ := h.indicator
  · exact ⟨hind.trans hon, mark, hfrom, hmark, hmotion.trans hstamp⟩
  · exact ⟨hind, s.inputs.now, hfrom.trans hmark, le_rfl, hmotion⟩
  · rw [hstamp, s.since_stamp mark hmark (by omega)] at hcool
    omega

theorem step_litFrom {s t : State} {c : Config} {t0 : Nat} (hwrap : c.tCool ≤ 2 ^ c.tw)
    (hs : s.litFrom c t0 s.inputs.now) (h : step s = .next t) (hreset : ∀ n, s.nextItem ≠ .reset n) :
    t.litFrom c t0 t.inputs.now := by
  obtain hquiet | ⟨now, sda, bs, bp, i, -, hclock, htake, hi, hexec⟩ :=
    step_takes (P := fun u => u.litFrom c t0 u.inputs.now) (fun _ _ _ _ _ _ h => h) hs h hreset
  · exact hquiet
  · rw [← s.takeItem_inputs] at hclock
    exact (exec_move (s := { s.takeItem with inputs := ⟨now, sda, bs, bp⟩ }) hi hexec).litFrom hclock hwrap htake

/-- Settles O53: along the run the stamp is of a time from `t0` on, so no LOOP.COOL before `t0 + T_COOL` finds the
cooldown over. -/
theorem indicatorStaysOn : Obligations.IndicatorStaysOn := by
  intro s t t0 n hon hstamp hpast hwrap hrun hreset hbefore
  have hstart : s.litFrom s.cfg t0 s.inputs.now := ⟨rfl, fun _ => ⟨hon, t0, le_rfl, hpast, hstamp⟩⟩
  have hend : t.litFrom s.cfg t0 t.inputs.now :=
    run_induction_at (P := fun _ u => u.litFrom s.cfg t0 u.inputs.now) hstart
      (fun k u v hk hu hv hlit => step_litFrom hwrap hlit hv fun m => hreset k u m hk hu) hrun
  obtain ⟨-, hlit⟩ := hend
  obtain ⟨hlight, -⟩ := hlit hbefore
  exact hlight

/-- Settles O52: of the moves only the end of the cooldown turns the indicator off, and CAPTURE leaves it. -/
theorem onlyCooldownTurnsIndicatorOff : Obligations.OnlyCooldownTurnsIndicatorOff := by
  intro s t h hreset hon hoff
  have kept (hsame : t.indOn = s.indOn) : False := absurd (hoff.symm.trans (hsame.trans hon)) Bool.false_ne_true
  obtain ⟨now, sda, bs, bp, i, -, -, hm⟩ | ⟨src, edge, -, rfl | ⟨f, rfl⟩⟩ | ⟨n, hitem, -⟩ := step_moves h
  · obtain ⟨hind, -⟩ | ⟨hind, -⟩ | ⟨hp, hcool, -, hreport⟩ := hm.indicator
    · exact (kept (by simpa using hind)).elim
    · exact absurd (hoff.symm.trans hind) Bool.false_ne_true
    · obtain ⟨hcfg, hinputs, -⟩ := hm.env
      rw [State.since, hcfg, hinputs]
      exact ⟨by simpa using hp, by simpa [State.since] using hcool, by simpa using hreport⟩
  · exact (kept (by simp)).elim
  · exact (kept (by simp [State.setFlag])).elim
  · exact absurd hitem (hreset n)

end Sys2Proof.Machine
end

section
/-! The order of an iteration: from every move the sequencer goes on to a successor that R181 lists (R181, R255). -/

namespace Sys2Proof.Machine

/-- The word at an operation's place decodes to it (R96). -/
theorem State.decode_of_place {s : State} {i : Instr} {p : Phase} {d : DState} (hi : place i = some (p, d))
    (hp : s.phase = p) (hd : s.dstate = d) : decode (.seq s.seq) = .ok i := by
  rw [State.seq, hp, hd]
  cases i <;> cases hi <;> rfl

/-- A bounded wait that ends with its level goes on to a state that R181 lists after it. -/
theorem State.WaitAt.successor {s : State} {i : Instr} {want : Bool} {next : DState} (hw : s.WaitAt i want next) :
    ∃ j ∈ successors i, place j = some (PH_DECODE, next) := by
  obtain ⟨hw, -⟩ | ⟨hw, -⟩ | ⟨hw, -⟩ | ⟨hw, -⟩ := hw <;> cases hw
  · exact ⟨.decAckh, by decide, rfl⟩
  · exact ⟨.decBith, by decide, rfl⟩
  · exact ⟨.decBitd, by decide, rfl⟩
  · split
    · exact ⟨.decChk, by decide, rfl⟩
    · exact ⟨.decBith, by decide, rfl⟩

/-- A bounded wait may be made again, at the same place, and may end the read. -/
theorem State.WaitAt.waits_or_done {s : State} {i : Instr} {want : Bool} {next : DState} (hw : s.WaitAt i want next) :
    i ∈ successors i ∧ place i = some (PH_DECODE, s.dstate) ∧ .loopRet ∈ successors i := by
  obtain ⟨hw, hd⟩ | ⟨hw, hd⟩ | ⟨hw, hd⟩ | ⟨hw, hd⟩ := hw <;> cases hw <;> rw [hd] <;> decide

/-- After every move the word is that of a successor that R181 lists. -/
theorem Move.successor {i : Instr} {s t : State} (h : Move i s t) :
    ∃ j ∈ successors i, decode (.seq t.seq) = .ok j := by
  have goes {j : Instr} {p : Phase} {d : DState} (hj : j ∈ successors i) (hplace : place j = some (p, d))
      (hp : t.phase = p) (hd : t.dstate = d) : ∃ j ∈ successors i, decode (.seq t.seq) = .ok j :=
    ⟨j, hj, State.decode_of_place hplace hp hd⟩
  cases h
  case pollCalls => exact goes (j := .decReq) (by decide) rfl rfl rfl
  case pollSkips => exact goes (j := .loopDrin) (by decide) rfl rfl rfl
  case releases hp _ _ => exact goes (j := .decTurn) (by decide) rfl hp rfl
  case acknowledged hp _ _ _ => exact goes (j := .decAckl) (by decide) rfl hp rfl
  case levelSeen hp _ hw =>
    obtain ⟨j, hj, hplace⟩ := State.WaitAt.successor hw
    exact goes hj hplace hp rfl
  case timesOut hp _ _ hw =>
    obtain ⟨-, -, hret⟩ := State.WaitAt.waits_or_done hw
    exact goes hret rfl hp rfl
  case waits hp _ _ hw =>
    obtain ⟨hself, hplace, -⟩ := State.WaitAt.waits_or_done hw
    exact goes hself hplace hp rfl
  case samples hp _ _ => exact goes (j := .decBitl) (by decide) rfl hp rfl
  case noResponse hp _ _ _ | validates hp _ _ | rejects hp _ _ =>
    exact goes (j := .loopRet) (by decide) rfl hp rfl
  case usesReading | reportsFault => exact goes (j := .loopDrin) (by decide) rfl rfl rfl
  case drainsIn | skipsIn => exact goes (j := .loopDrout) (by decide) rfl rfl rfl
  case drainsOut | skipsOut => exact goes (j := .loopDrmot) (by decide) rfl rfl rfl
  case drainsMotionOn | drainsMotionOff | skipsMotion => exact goes (j := .loopCool) (by decide) rfl rfl rfl
  case coolsDown | staysWarm => exact goes (j := .loopBtn) (by decide) rfl rfl rfl
  case starts | stops | keepsMotor2 => exact goes (j := .loopIdle) (by decide) rfl rfl rfl
  case idleOver => exact goes (j := .loopPoll) (by decide) rfl rfl rfl
  case delays hw =>
    obtain ⟨rfl, hp, hd, -⟩ | ⟨rfl, hp, hd, -⟩ | ⟨rfl, hp, hd, -⟩ | ⟨rfl, hp, hd, -⟩ := hw
    · exact goes (j := .decReq) (by decide) rfl hp hd
    · exact goes (j := .decTurn) (by decide) rfl hp hd
    · exact goes (j := .decBitd) (by decide) rfl hp hd
    · exact goes (j := .loopIdle) (by decide) rfl hp hd

/-- Settles O48: an operation at its own word makes one of the moves, and each move goes on to a successor. -/
theorem successorsFollowTheOrder : Obligations.SuccessorsFollowTheOrder := by
  intro i s t hdecode h
  exact (exec_move hdecode h).successor

end Sys2Proof.Machine
end

section
/-! The inventory: the increment at the top count and below it, and the count as a fold of the drained events (R188, R203,
R234). -/

namespace Sys2Proof.Machine

/-! ## The increment (R188, R234) -/

theorem State.invIncrement_of_top {s : State} (htop : s.inv = 2 ^ s.cfg.cw - 1) :
    s.invIncrement = { s with invOvf := true } := if_pos htop

theorem State.invIncrement_of_not_top {s : State} (hfits : s.inv < 2 ^ s.cfg.cw) (hne : s.inv ≠ 2 ^ s.cfg.cw - 1) :
    s.invIncrement = { s with inv := s.inv + 1 } := by
  rw [State.invIncrement, if_neg (show s.inv ≠ maxCount s.cfg from hne), Nat.mod_eq_of_lt (by omega)]

/-! ## The count as a fold (R203) -/

section
variable (s : State) (c : Nat) (events : List DrainedEvent)

theorem State.drainAll_entered : s.drainAll (.entered :: events) = s.itemEntered.drainAll events := rfl
theorem State.drainAll_removed : s.drainAll (.removed :: events) = s.itemRemoved.drainAll events := rfl

theorem foldEvents_entered : foldEvents c (.entered :: events) = foldEvents (c + 1) events := rfl
theorem foldEvents_removed : foldEvents c (.removed :: events) = foldEvents (c - 1) events := rfl

theorem count_entered_cons : (DrainedEvent.entered :: events).count .entered = events.count .entered + 1 ∧
    (DrainedEvent.entered :: events).count .removed = events.count .removed :=
  ⟨List.count_cons_self, List.count_cons_of_ne (by decide)⟩

theorem count_removed_cons : (DrainedEvent.removed :: events).count .entered = events.count .entered ∧
    (DrainedEvent.removed :: events).count .removed = events.count .removed + 1 :=
  ⟨List.count_cons_of_ne (by decide), List.count_cons_self⟩

end

/-- The sticky fault stays set under any drained events (R40). -/
theorem State.drainAll_invOvf {s : State} (hset : s.invOvf = true) (events : List DrainedEvent) :
    (s.drainAll events).invOvf = true := by
  induction events generalizing s with
  | nil => exact hset
  | cons e events ih =>
    cases e with
    | entered =>
      have hinc : s.invIncrement.invOvf = true := by
        obtain ⟨-, -, hovf⟩ | ⟨-, -, hovf⟩ := s.invIncrement_cases
        · exact hovf
        · exact hovf.trans hset
      exact ih (s := s.itemEntered) hinc
    | removed => exact ih (s := s.itemRemoved) hset

/-- While the sticky fault stays clear no entry met the top count, so the machine's count is the unbounded one. -/
theorem State.drainAll_inv {s : State} {events : List DrainedEvent} (hfits : s.inv < 2 ^ s.cfg.cw)
    (hclear : (s.drainAll events).invOvf = false) : (s.drainAll events).inv = foldEvents s.inv events := by
  induction events generalizing s with
  | nil => rfl
  | cons e events ih =>
    cases e with
    | entered =>
      have hne : s.inv ≠ 2 ^ s.cfg.cw - 1 := fun htop => by
        have hset : s.itemEntered.invOvf = true := by simp [State.itemEntered, State.invIncrement_of_top htop]
        exact absurd (hclear.symm.trans (State.drainAll_invOvf hset events)) Bool.false_ne_true
      have hcount : s.itemEntered.inv = s.inv + 1 := by
        simp [State.itemEntered, State.invIncrement_of_not_top hfits hne]
      have hcfg : s.itemEntered.cfg = s.cfg := by simp [State.itemEntered]
      rw [State.drainAll_entered, foldEvents_entered, ih (by rw [hcount, hcfg]; omega) hclear, hcount]
    | removed =>
      rw [State.drainAll_removed, foldEvents_removed]
      exact ih (s := s.itemRemoved) ((Nat.sub_le _ _).trans_lt hfits) hclear

theorem le_foldEvents (c : Nat) (events : List DrainedEvent) :
    c + events.count .entered - events.count .removed ≤ foldEvents c events := by
  induction events generalizing c with
  | nil => exact le_rfl
  | cons e events ih =>
    cases e with
    | entered =>
      obtain ⟨hin, hout⟩ := count_entered_cons events
      have h := ih (c + 1)
      rw [foldEvents_entered, hin, hout]
      omega
    | removed =>
      obtain ⟨hin, hout⟩ := count_removed_cons events
      have h := ih (c - 1)
      rw [foldEvents_removed, hin, hout]
      omega

/-- No removal raises the count. -/
theorem foldEvents_le (c : Nat) (events : List DrainedEvent) : foldEvents c events ≤ c + events.count .entered := by
  induction events generalizing c with
  | nil => exact le_rfl
  | cons e events ih =>
    cases e with
    | entered =>
      obtain ⟨hin, -⟩ := count_entered_cons events
      have h := ih (c + 1)
      rw [foldEvents_entered, hin]
      omega
    | removed =>
      obtain ⟨hin, -⟩ := count_removed_cons events
      have h := ih (c - 1)
      rw [foldEvents_removed, hin]
      omega

/-- A removal that meets count 0 with no entry after it leaves the fold at 0, where the truncated difference is. -/
theorem foldEvents_eq_of_noLateEntry {c : Nat} {events : List DrainedEvent} (hexact : noLateEntry c events = true) :
    foldEvents c events = c + events.count .entered - events.count .removed := by
  induction events generalizing c with
  | nil => rfl
  | cons e events ih =>
    cases e with
    | entered =>
      obtain ⟨hin, hout⟩ := count_entered_cons events
      have h := ih (c := c + 1) hexact
      rw [foldEvents_entered, hin, hout]
      omega
    | removed =>
      obtain ⟨hin, hout⟩ := count_removed_cons events
      rw [foldEvents_removed, hin, hout]
      rw [noLateEntry] at hexact
      split at hexact
      next hzero =>
        have hnone : events.count .entered = 0 :=
          List.count_eq_zero.mpr fun hmem => by simp [hmem] at hexact
        have hle := foldEvents_le (c - 1) events
        omega
      next hpos =>
        have h := ih hexact
        omega

/-- Settles O54, by induction on the events for each of its parts. -/
theorem inventoryLaw : Obligations.InventoryLaw :=
  ⟨fun _ _ hfits _ hclear => State.drainAll_inv hfits hclear,
    fun c events => ⟨le_foldEvents c events, foldEvents_eq_of_noLateEntry⟩, rfl⟩

end Sys2Proof.Machine
end

section
/-! The control loop's operations as the rules write them (R184 to R198, R220, R222). -/

namespace Sys2Proof.Machine

/-! ## The timed operations and LOOP.RET (R184, R186, R194, R198) -/

/-- Settles O11. -/
theorem loopPollResult : Obligations.LoopPollResult :=
  ⟨rfl, fun s => congrArg Host.Outcome.next
    (s.ite_timerDone s.callDecoder (s.setSeq PH_DRAIN_IN D_IDLE) s.tPoll s.cfg.tPoll)⟩

/-- Settles O18: the code decides whether the reading is used, and the thresholds which command Motor 1 takes. -/
theorem loopRetResult : Obligations.LoopRetResult := by
  refine ⟨rfl, fun s => ?_⟩
  obtain ⟨t, h⟩ := exec_answers .loopRet s
  obtain ⟨hok, rfl⟩ | ⟨hbad, rfl⟩ := execLoopRet_cases h
  · refine ⟨fun _ hover => ?_, fun _ hhum htemp => ?_, fun hbad => absurd hok hbad⟩
    · rw [h, ← hok, m1Command, if_pos hover]
      rfl
    · rw [h, ← hok, m1Command, if_neg (by omega)]
      rfl
  · exact ⟨fun hok => absurd hok hbad, fun hok => absurd hok hbad, fun _ => h⟩

/-- Settles O22. -/
theorem loopCoolResult : Obligations.LoopCoolResult := by
  refine ⟨rfl, fun s => ?_⟩
  obtain ⟨t, h⟩ := exec_answers .loopCool s
  obtain ⟨hon, hcool, rfl⟩ | ⟨hwarm, rfl⟩ := execLoopCool_cases h
  · rw [h, if_pos ⟨hon, hcool⟩]
    rfl
  · rw [h, if_neg hwarm]
    rfl

/-- Settles O24: the flags are not looked at. -/
theorem loopIdleResult : Obligations.LoopIdleResult :=
  ⟨rfl, fun s => congrArg Host.Outcome.next (s.ite_timerDone (s.setSeq PH_POLL D_IDLE) s s.tIdle s.cfg.tIdle)⟩

/-! ## The drains (R188, R190, R192) -/

theorem exec_drainOp_of_clear {s : State} {f : EdgeFlag} (hclear : s.flag f = false) :
    exec f.drainOp s = .next (s.setSeq f.phaseAfterDrain D_IDLE) := by
  obtain ⟨hset, -⟩ | ⟨-, hdrain⟩ := s.drain_cases f f.action
  · exact absurd (hclear.symm.trans hset) Bool.false_ne_true
  · rw [exec_drainOp, hdrain]

theorem exec_drainOp_of_set {s : State} {f : EdgeFlag} (hset : s.flag f = true) :
    exec f.drainOp s = .next ((f.action (s.putFlag f false)).setSeq f.phaseAfterDrain D_IDLE) := by
  obtain ⟨-, hdrain⟩ | ⟨hclear, -⟩ := s.drain_cases f f.action
  · rw [exec_drainOp, hdrain]
  · exact absurd (hclear.symm.trans hset) Bool.false_ne_true

/-- Settles O19: the flag's drain, whose action is the increment at the top count or below it. -/
theorem loopDrinResult : Obligations.LoopDrinResult := by
  refine ⟨rfl, fun s hfits => ⟨fun hclear => exec_drainOp_of_clear (f := .transitIn) hclear, fun hset htop => ?_,
    fun hset hne => ?_⟩⟩
  · have htop' : (s.putFlag .transitIn false).invIncrement = { s with fIn := false, invOvf := true } :=
      State.invIncrement_of_top htop
    refine (exec_drainOp_of_set (f := .transitIn) hset).trans ?_
    rw [EdgeFlag.action, State.itemEntered, htop']
    rfl
  · have hbelow : (s.putFlag .transitIn false).invIncrement = { s with fIn := false, inv := s.inv + 1 } :=
      State.invIncrement_of_not_top hfits hne
    refine (exec_drainOp_of_set (f := .transitIn) hset).trans ?_
    rw [EdgeFlag.action, State.itemEntered, hbelow]
    rfl

/-- The drain of transitOut, by the count that its decrement leaves. -/
theorem exec_loopDrout_of_set {s : State} {m : Nat} (hset : s.fOut = true) (hcount : s.inv - 1 = m) :
    exec .loopDrout s = .next { s with
      fOut := false, inv := m, report := s.report ++ [⟨.removed, m, 0⟩],
      phase := PH_DRAIN_MOTION, dstate := D_IDLE } := by
  subst hcount
  exact exec_drainOp_of_set (f := .transitOut) hset

/-- Settles O20: the count after the drain is one less, or still 0. -/
theorem loopDroutResult : Obligations.LoopDroutResult := by
  refine ⟨rfl, fun s => ⟨fun hclear => exec_drainOp_of_clear (f := .transitOut) hclear, fun hset hzero => ?_,
    fun hset m hcount => exec_loopDrout_of_set hset (by omega)⟩⟩
  rw [exec_loopDrout_of_set hset (m := s.inv) (by omega), hzero]

/-- Settles O21: the flag's drain, whose action depends on the indicator. -/
theorem loopDrmotResult : Obligations.LoopDrmotResult := by
  refine ⟨rfl, fun s => ⟨fun hclear => exec_drainOp_of_clear (f := .motion) hclear, fun hset hoff => ?_,
    fun hset hon => ?_⟩⟩
  · have hoff' : ¬ (s.putFlag .motion false).indOn = true := by simp [hoff]
    refine (exec_drainOp_of_set (f := .motion) hset).trans ?_
    rw [EdgeFlag.action, State.motionSeen, if_neg hoff']
    rfl
  · have hon' : (s.putFlag .motion false).indOn = true := hon
    refine (exec_drainOp_of_set (f := .motion) hset).trans ?_
    rw [EdgeFlag.action, State.motionSeen, if_pos hon']
    rfl

/-! ## The buttons (R196, R222, R224) -/

/-- Writing a register's own value is no change. -/
theorem State.with_m2On_self {s : State} {b : Bool} (h : s.m2On = b) : { s with m2On := b } = s := by
  subst h
  rfl

/-- From Off only the start button counts. -/
theorem State.sampleButtons_of_off {s : State} (hoff : s.m2On = false) :
    s.sampleButtons = if s.inputs.btnStart = true then { s with m2On := true }.emit .m2On 0 0 else s := by
  cases hstart : s.inputs.btnStart <;>
    simp [State.sampleButtons, m2Starts, m2Next, hoff, hstart, State.with_m2On_self hoff]

/-- From On only the stop button counts. -/
theorem State.sampleButtons_of_on {s : State} (hon : s.m2On = true) :
    s.sampleButtons = if s.inputs.btnStop = true then { s with m2On := false } else s := by
  cases hstop : s.inputs.btnStop <;>
    simp [State.sampleButtons, m2Starts, m2Next, hon, hstop, State.with_m2On_self hon]

/-- LOOP.BTN by Motor 2's transition. -/
theorem exec_loopBtn_of_sampleButtons {s u : State} (hu : s.sampleButtons = u) :
    exec .loopBtn s = .next ({ u with tIdle := s.nowStamp }.setSeq PH_IDLE D_IDLE) := by
  subst hu
  rfl

/-- Settles O23: the two rows from Off and the two from On, each for both levels of the button that does not count. -/
theorem loopBtnResult : Obligations.LoopBtnResult := by
  refine ⟨rfl, fun s => ⟨fun hoff hstart => ?_, fun hoff hstart => ?_, fun hon hstop => ?_, fun hon hstop => ?_⟩⟩
  · exact exec_loopBtn_of_sampleButtons ((State.sampleButtons_of_off hoff).trans (if_pos hstart))
  · exact exec_loopBtn_of_sampleButtons ((State.sampleButtons_of_off hoff).trans (if_neg (by simp [hstart])))
  · exact exec_loopBtn_of_sampleButtons ((State.sampleButtons_of_on hon).trans (if_pos hstop))
  · exact exec_loopBtn_of_sampleButtons ((State.sampleButtons_of_on hon).trans (if_neg (by simp [hstop])))

end Sys2Proof.Machine
end

section
/-! Motor 1 and the reading: the printed table of the command, and the one move that writes each (R220, R221, R241). -/

namespace Sys2Proof.Machine

/-- Settles O29: the two commands, at the thresholds and the duty that R7 prints. -/
theorem motor1Table : Obligations.Motor1Table := by
  intro temp hum
  obtain ⟨hover, hfull⟩ | ⟨hhum, htemp, hoff⟩ := m1Command_cases Config.nominal temp hum
  · have hover : 60 < hum.toNat ∨ 30 < temp.toNat := hover
    rw [hfull, if_pos hover]
    rfl
  · have hunder : ¬ (60 < hum.toNat ∨ 30 < temp.toNat) := not_or.mpr ⟨hhum.not_gt, htemp.not_gt⟩
    rw [hoff, if_neg hunder]

/-- Registers that ENV and CAPTURE leave alone change at a step only by a move of MAIN. -/
theorem step_changes_by_move {α : Type} (regs : State → α)
    (hquiet : ∀ (s : State) (inp : Inputs) (fi fo fm : Bool) (script : List EnvStep) (d : Nat),
      regs { s with inputs := inp, fIn := fi, fOut := fo, fMotion := fm, script := script, envDrawn := d } = regs s)
    {s t : State} (h : step s = .next t) (hreset : ∀ n, s.nextItem ≠ .reset n) (hne : regs t ≠ regs s) :
    ∃ inp i, Move i { s.takeItem with inputs := inp } t ∧ regs t ≠ regs { s.takeItem with inputs := inp } := by
  obtain hkept | ⟨now, sda, bs, bp, i, -, -, htake, hi, hexec⟩ := step_takes (P := fun u => regs u = regs s)
    (fun u fi fo fm script d hu => (hquiet u u.inputs fi fo fm script d).trans hu) rfl h hreset
  · exact absurd hkept hne
  · have hbefore : regs { s.takeItem with inputs := ⟨now, sda, bs, bp⟩ } = regs s :=
      (hquiet s.takeItem _ s.takeItem.fIn s.takeItem.fOut s.takeItem.fMotion s.takeItem.script
        s.takeItem.envDrawn).trans htake
    exact ⟨⟨now, sda, bs, bp⟩, i, exec_move hi hexec, hbefore ▸ hne⟩

/-- A move that is not the use of a good result leaves Motor 1 (R221). -/
theorem Move.motor1_kept_or_used {i : Instr} {s t : State} (h : Move i s t) :
    (t.m1Duty, t.m1En) = (s.m1Duty, s.m1En) ∨
    (s.phase = PH_DECODE ∧ s.dstate = D_DONE ∧ s.dErr = .none ∧ t.lastErr = .none) := by
  cases h
  case usesReading hp hd hgood => exact .inr ⟨hp, hd, hgood, hgood⟩
  case drainsIn => simp [State.itemEntered]
  all_goals exact .inl rfl

/-- A move that is not the check of a good frame leaves the reading, every fault included (R128, R241). -/
theorem Move.reading_kept_or_validated {i : Instr} {s t : State} (h : Move i s t) :
    (t.dHum, t.dTemp) = (s.dHum, s.dTemp) ∨ (s.phase = PH_DECODE ∧ s.dstate = D_CHK ∧ t.dErr = .none) := by
  cases h
  case validates hp hd _ => exact .inr ⟨hp, hd, rfl⟩
  case drainsIn => simp [State.itemEntered]
  all_goals exact .inl rfl

/-- Settles O50: a change of Motor 1 or of the reading is a move's, and of the moves one writes each. -/
theorem faultsFreezeMotor1 : Obligations.FaultsFreezeMotor1 := by
  refine fun s t h hreset => ⟨fun hne => ?_, fun hne => ?_⟩
  · have hpair : (t.m1Duty, t.m1En) ≠ (s.m1Duty, s.m1En) := by simpa [imp_iff_not_or] using hne
    obtain ⟨inp, i, hm, hwritten⟩ :=
      step_changes_by_move (fun u => (u.m1Duty, u.m1En)) (fun _ _ _ _ _ _ _ => rfl) h hreset hpair
    simpa using hm.motor1_kept_or_used.resolve_left hwritten
  · have hpair : (t.dHum, t.dTemp) ≠ (s.dHum, s.dTemp) := by simpa [imp_iff_not_or] using hne
    obtain ⟨inp, i, hm, hwritten⟩ :=
      step_changes_by_move (fun u => (u.dHum, u.dTemp)) (fun _ _ _ _ _ _ _ => rfl) h hreset hpair
    simpa using hm.reading_kept_or_validated.resolve_left hwritten

end Sys2Proof.Machine
end

section
/-! The start of a read: the one move that enters the decoder is the call at a poll timer run out (R184, R290). -/

namespace Sys2Proof.Machine

/-- A move from outside a read to inside one is the call of the decoder by LOOP.POLL: every other
move from outside goes on to a phase of the loop (R184). -/
theorem Move.enters_read {i : Instr} {s t : State} (h : Move i s t) (hout : ¬ s.inRead) (hin : t.inRead) :
    s.phase = PH_POLL ∧ (s.cfg.tPoll : Int) ≤ s.since s.tPoll ∧ t = s.callDecoder := by
  cases h
  case pollCalls hp _ htimer => exact ⟨hp, htimer, rfl⟩
  case delays | waits => exact absurd hin hout
  case releases hp _ _ | acknowledged hp _ _ _ | noResponse hp _ _ _ | levelSeen hp _ _ | timesOut hp _ _ _ |
      samples hp _ _ | validates hp _ _ | rejects hp _ _ => exact absurd hp hout
  case pollSkips | usesReading | reportsFault => exact absurd hin (show PH_DRAIN_IN ≠ PH_DECODE by decide)
  case drainsIn | skipsIn => exact absurd hin (show PH_DRAIN_OUT ≠ PH_DECODE by decide)
  case drainsOut | skipsOut => exact absurd hin (show PH_DRAIN_MOTION ≠ PH_DECODE by decide)
  case drainsMotionOn | drainsMotionOff | skipsMotion => exact absurd hin (show PH_COOLDOWN ≠ PH_DECODE by decide)
  case coolsDown | staysWarm => exact absurd hin (show PH_BUTTONS ≠ PH_DECODE by decide)
  case starts | stops | keepsMotor2 => exact absurd hin (show PH_IDLE ≠ PH_DECODE by decide)
  case idleOver => exact absurd hin (show PH_POLL ≠ PH_DECODE by decide)

/-- Settles O51: only a move of MAIN enters a read, and it is the call of the decoder; CAPTURE leaves the phase, and
the release of reset sets it to `PH_POLL`. -/
theorem readsOncePerPeriod : Obligations.ReadsOncePerPeriod := by
  intro s t h hout hin
  obtain ⟨now, sda, bs, bp, i, -, -, hm⟩ | ⟨src, edge, -, rfl | ⟨f, rfl⟩⟩ | ⟨n, -, -, rfl⟩ := step_moves h
  · obtain ⟨hp, htimer, rfl⟩ := hm.enters_read (by simpa using hout) hin
    exact ⟨by simpa using hp, by simpa [State.since] using htimer, rfl, rfl⟩
  · exact absurd (s.takeItem_phase.symm.trans hin) hout
  · exact absurd (by simpa [State.inRead, State.setFlag] using hin) hout
  · exact absurd hin (show PH_POLL ≠ PH_DECODE by decide)

end Sys2Proof.Machine
end
